-- ==== Sys2Proof/Word.lean ====
section
/-! DEFINITION. The unit of data: a byte (spec 00_scope.md R16, 20_memory.md R53). -/

namespace Sys2Proof

/-- A byte is 8 bits, 0x00 to 0xFF (R16). Every datum that moves is one byte (R53). -/
abbrev Byte := BitVec 8

end Sys2Proof
end

