-- ==== Sys2Proof/Config.lean ====
section
/-! DEFINITION. The implementation parameters of spec 00_scope.md R6 to R13, and the model's one free value. -/

namespace Sys2Proof

/-- The parameters, fixed at launch (10_state.md R45: configuration, not state). A launch takes them
as its argument; which of them are admissible is R15's check, `Machine.configOK`. -/
structure Config where
  /-- P_LEN, the payload length (R6). -/
  len        : Nat
  /-- P_PAYLOAD, the start code and the channel bytes (R7). -/
  payload    : List Byte
  /-- P_FIFO_DEPTH (R8). -/
  fifoDepth  : Nat
  /-- P_BREAK_TICKS (R9). -/
  breakTicks : Nat
  /-- P_MARK_TICKS (R10). -/
  markTicks  : Nat
  /-- P_TICK_HZ (R11). No operation reads it; only the timing premises do. R11 gives it no type and no
  range: a natural number, 0 included, is a DESIGN CHOICE (log entry 17). -/
  tickHz     : Nat
  /-- P_TIMER_WIDTH (R12). -/
  timerWidth : Nat
  /-- P_SLEEP_ITERS (R13). -/
  sleepIters : Nat
  deriving DecidableEq, Repr

/-- The parameters of `Machine.State.reset`. P_LEN = 27 (R6), P_TIMER_WIDTH = 16 (R12) and
P_PAYLOAD[0] = 0x00 (R7) are the spec's.
DESIGN CHOICE (log entry 2, unsafe): the spec leaves every other value OPEN; these are named so that
the reset state is one state. No statement rests on them: each quantifies over every `Config`. -/
def Config.atReset : Config where
  len        := 27
  payload    := [0x00, 0x01, 0x02, 0x03, 0x04, 0x05, 0x06, 0x07, 0x08,
                 0x09, 0x0A, 0x0B, 0x0C, 0x0D, 0x0E, 0x0F, 0x10, 0x11,
                 0x12, 0x13, 0x14, 0x15, 0x16, 0x17, 0x18, 0x19, 0x1A]
  fifoDepth  := 2
  breakTicks := 88
  markTicks  := 8
  tickHz     := 1000000
  timerWidth := 16
  sleepIters := 1

/-- FREE VALUE (log entry 10). What TIMER.ARM leaves in TCOUNT when its operand `n` lies above the
range R170 gives it, 1 to 2^width - 1: the spec states no value there. -/
opaque Config.freeCount (width n : Nat) : Nat

end Sys2Proof
end

