-- ==== Sys2Proof/Machine/Launch.lean ====
section
/-! DEFINITION. The launch configuration check (spec 00_scope.md R15), the timing premises of R9, R10
and 70_reset_and_hazards.md R250, and the timing notes of R14, R252 and R253. -/

namespace Sys2Proof.Machine

/-- R15's configOK, conjunct by conjunct. -/
def configOK (c : Config) : Bool :=
  decide
    (1 ≤ c.len ∧ c.len ≤ 513
      ∧ c.payload.length = c.len ∧ c.payload[0]? = some 0x00
      ∧ 1 ≤ c.fifoDepth ∧ c.fifoDepth ≤ 255
      ∧ 1 ≤ c.timerWidth ∧ c.timerWidth ≤ 32
      ∧ 1 ≤ c.breakTicks ∧ c.breakTicks ≤ 2 ^ c.timerWidth - 1
      ∧ 1 ≤ c.markTicks ∧ c.markTicks ≤ 2 ^ c.timerWidth - 1
      ∧ 0 ≤ c.sleepIters ∧ c.sleepIters ≤ 2 ^ 32 - 1)

/-- P_BREAK_TICKS / P_TICK_HZ >= 88 µs, a claim's premise that no step checks (R9, R250), multiplied out.
DESIGN CHOICE (log entry 17): at P_TICK_HZ = 0, where the quotient has no meaning, it comes out true. -/
def breakPremise (c : Config) : Bool := decide (88 * c.tickHz ≤ 1000000 * c.breakTicks)

/-- P_MARK_TICKS / P_TICK_HZ >= 8 µs, a claim's premise that no step checks (R10, R250), multiplied out.
DESIGN CHOICE (log entry 17): at P_TICK_HZ = 0, where the quotient has no meaning, it comes out true. -/
def markPremise (c : Config) : Bool := decide (8 * c.tickHz ≤ 1000000 * c.markTicks)

/-- The fixed line rate in bits a second (R14). No operation reads it. -/
def lineBitRate : Nat := 250000

/-- Bits of a byte frame: one start bit, 8 data bits and 2 stop bits (R252). -/
def byteFrameBits : Nat := 1 + 8 + 2

/-- Microseconds a byte lasts on the line (R252). -/
def byteTimeUs : Nat := byteFrameBits * (1000000 / lineBitRate)

/-- Least microseconds of the data part of a frame (R253). -/
def frameDataUs (c : Config) : Nat := c.len * byteTimeUs

/-- Least microseconds of a whole conforming frame: break, mark and data (R253). -/
def frameTimeUs (c : Config) : Nat := 88 + 8 + frameDataUs c

/-- On the chip, the inter-frame spin of `spinUs` microseconds covers a full FIFO (R247). -/
def gapCoversFifo (c : Config) (spinUs : Nat) : Bool := decide (c.fifoDepth * byteTimeUs ≤ spinUs)

end Sys2Proof.Machine
end

