-- ==== Sys2Proof/Syntax.lean ====
section
/-! DEFINITION. The step labels (spec 30_encoding.md R70 to R77), their agents, and the schedule
syntax with its pseudo-instructions (R85, R86). -/

namespace Sys2Proof

/-- One constructor per row of spec/opcode_table.json. No label carries an operand (R83). -/
inductive Instr where
  -- LOOP (R72)
  | loopBreak | loopInBreak | loopMark | loopInMark | loopBeginSend | loopSending | loopSleeping
  | loopIllegal
  -- TIMER_ISR (R73)
  | tisrInBreak | tisrInMark | tisrSpurious
  -- TXE_ISR (R74), TIMER (R75), UART (R76)
  | txisr | timerTick | uartShift
  -- MICRO (R77)
  | bufReset | bufHasMore | bufTakeNext | txBurst | txStart | uartPush | uartEnable | uartDisable
  | timerArm | timerStop | gpioSetLine | gpioSetAct | txeieSet | txeieClear
  deriving DecidableEq, Repr

/-- The value of a label's AGENT field (R71). Codes 5 and 6 are reserved and no label has them. -/
inductive Agent where
  | loop | timerIsr | txeIsr | timer | uart | micro
  deriving DecidableEq, Repr

/-- A line of a schedule: a label, or one of R86's pseudo-instructions. -/
inductive Pseudo where
  | label (i : Instr)
  | loop
  | tisr
  | tick (n : Nat)
  | shift (n : Nat)
  | spin (n : Nat)
  deriving DecidableEq, Repr

end Sys2Proof
end

