-- ==== Sys2Proof/Machine/State.lean ====
section
/-! DEFINITION. The state of the block (spec 10_state.md R20 to R40), the reasons a step can stop,
the launch state and the reset state (70_reset_and_hazards.md R240). -/

namespace Sys2Proof.Machine

/-- The values of FSTATE, the 3-bit Frame State register (R21): the seven named states and the
reserved code 7 (30_encoding.md R81; codes in `fstateCode`). -/
inductive FState where
  | break_ | inBreak | mark | inMark | beginSend | sending | sleeping | reserved
  deriving DecidableEq, Repr

/-- The faults of 60_exceptions.md R200, recorded in FCODE (codes in `faultNumber`). -/
inductive FaultCode where
  | bufUnderrun | fifoOverflow | pushWhileDisabled | spuriousTimerIrq | illegalFstate
  deriving DecidableEq, Repr

/-- A wire event (10_state.md R39; its 16-bit word in `wireWord`). -/
inductive WireEvent where
  /-- BRK: the line fell to low. -/
  | brk
  /-- MAB: the line rose to high. -/
  | mab
  /-- BYTE(b): byte b began on the line. -/
  | byte (b : Byte)
  /-- TRUNC(n): n accepted bytes were discarded and never reached the line. -/
  | trunc (n : Nat)
  deriving DecidableEq, Repr

/-- The operands a calling rule supplies to a micro-operation (30_encoding.md R83). The MODEL's own
(DESIGN CHOICE, log entry 7). -/
structure MicroArgs where
  /-- b of UART.PUSH(b). -/
  byte  : Byte
  /-- N of TIMER.ARM(N). -/
  ticks : Nat
  /-- v of GPIO.SET_LINE(v) and GPIO.SET_ACT(v). -/
  level : Bool
  deriving DecidableEq, Repr

/-- What a micro-operation returned to its caller. The MODEL's own (DESIGN CHOICE, log entry 7). -/
inductive MicroRet where
  | none
  /-- of BUF.HASMORE -/
  | flag (b : Bool)
  /-- of BUF.TAKENEXT -/
  | byte (b : Byte)
  /-- of TX.BURST -/
  | count (k : Nat)
  deriving DecidableEq, Repr

/-- Everything the spec gives the block, under its own names in lower case; a 1-bit register is a
Bool, 1 = true (R16). `schedule`, `args` and `ret` are the model's own (log entries 3 and 7). -/
structure State where
  /-- The launch parameters; configuration that no step writes (R45, log entry 1). -/
  cfg      : Config
  /-- FSTATE, the sequencer's position (R21, R22). -/
  fstate   : FState
  /-- CFLAG, the Completion Flag (R23). -/
  cflag    : Bool
  /-- NEXT, the cursor to the next byte to send (R24). -/
  nextCur  : BitVec 16
  /-- END, the index of the last valid byte (R25). -/
  endCur   : BitVec 16
  /-- SLEEPCNT, the busy-wait iterations left (R26). -/
  sleepCnt : BitVec 32
  /-- ACT, the activity pin (R27). -/
  act      : Bool
  /-- LINE_GPIO, the level the GPIO drives (R28). -/
  lineGpio : Bool
  /-- TXEN, the transmitter enable (R30). -/
  txen     : Bool
  /-- TXEIE, the enable of the transmit-empty interrupt (R31). -/
  txeie    : Bool
  /-- FIFO, head first (R32). -/
  fifo     : List Byte
  /-- TIE, the enable of the timer interrupt (R33). -/
  tie      : Bool
  /-- TARMED, the timer is counting (R34). -/
  tarmed   : Bool
  /-- TCOUNT, P_TIMER_WIDTH bits (R35) in a container of the largest width R12 allows (log entry 9). -/
  tcount   : BitVec 32
  /-- TPEND, the pending timer expiry (R36). -/
  tpend    : Bool
  /-- GIE, the global interrupt enable (R37). -/
  gie      : Bool
  /-- TRUNC, the sticky truncation status (R38). -/
  trunc    : Bool
  /-- WIRE, the wire events so far, oldest first (R39). -/
  wire     : List WireEvent
  /-- FCODE, the sticky fault code, 0 for none (R40). -/
  fcode    : BitVec 3
  /-- REFUSED, the sticky mark of a refusal (R40). -/
  refused  : Bool
  /-- The labels still to be taken, the next one first (R87). -/
  schedule : List Byte
  /-- Operands of a micro-operation that exec runs by itself. -/
  args     : MicroArgs
  /-- Result of a micro-operation that exec ran by itself. -/
  ret      : MicroRet
  deriving DecidableEq, Repr

/-- A stop that is not one of the spec's faults: those are recorded in FCODE and the machine's next
state shows them (R201, log entry 4). -/
inductive Fault where
  /-- Raised by BUF.TAKENEXT (alone or in a burst) when NEXT <= END and NEXT is no index of the
  payload: the address does not exist (20_memory.md R50, R51). No state reachable from a launch has
  such cursors (R104). Safe: the model stops (log entry 11). -/
  | payloadRange
  deriving DecidableEq, Repr

/-- Why there is no next step. -/
inductive Refusal where
  /-- exec's arm of an instruction that has no meaning. Safe. -/
  | notModelled (mnemonic : String)
  /-- REF_CONFIG: the parameters fail R15, so no step exists (R203). Raised by every label. Safe. -/
  | refConfig
  /-- An earlier label was refused with REF_LABEL (REFUSED = 1), so no further step exists (R203).
  Raised by every label. Safe. -/
  | refLabel
  /-- An earlier step faulted (FCODE is not 0), so no step of any agent is enabled (R201). Raised by
  every label. Safe. -/
  | faulted
  /-- The label's guard is false: it takes no step and the schedule is stuck at it (R80). Raised by
  the schedulable labels. Safe (log entry 5). -/
  | notEnabled
  /-- The schedule names no further label. Raised by step. Safe (log entry 3). -/
  | scheduleEnd
  deriving DecidableEq, Repr

/-- The launch state of R240 under the parameters `c`. A launch whose parameters fail R15 is refused
as a whole: REFUSED = 1 (R203, log entry 8). -/
def State.launch (c : Config) : State where
  cfg      := c
  fstate   := .break_
  cflag    := false
  nextCur  := 0
  endCur   := BitVec.ofNat 16 (c.len - 1)
  sleepCnt := 0
  act      := false
  lineGpio := true
  txen     := false
  txeie    := false
  fifo     := []
  tie      := false
  tarmed   := false
  tcount   := 0
  tpend    := false
  gie      := true
  trunc    := false
  wire     := []
  fcode    := 0
  refused  := !configOK c
  schedule := []
  args     := { byte := 0x00, ticks := 0, level := false }
  ret      := .none

/-- A launch with a schedule loaded from outside (log entry 3). -/
def State.launchWith (c : Config) (bs : List Byte) : State := { State.launch c with schedule := bs }

/-- The machine right after reset: the launch state of R240 under the parameters of log entry 2. -/
def State.reset : State := State.launch Config.atReset

end Sys2Proof.Machine
end

