-- ==== Sys2Proof/Machine/Operands.lean ====
section
/-! DEFINITION. Where the operations' values come from (spec 30_encoding.md R83): a payload byte, the
cursor limits, the tick counts and the spin count. -/

namespace Sys2Proof.Machine

/-- MemRead(i, 1): P_PAYLOAD[i] for 0 <= i <= P_LEN-1 (20_memory.md R51); no other index exists (R50). -/
def memRead (c : Config) (i : Nat) : Option Byte :=
  if i < c.len then c.payload[i]? else none

/-- P_LEN - 1, what BUF.RESET puts into END (40_transmit_buffer.md R100). -/
def lastIndex (c : Config) : BitVec 16 := BitVec.ofNat 16 (c.len - 1)

/-- P_SLEEP_ITERS as SLEEPCNT holds it (10_state.md R26). -/
def spinCount (c : Config) : BitVec 32 := BitVec.ofNat 32 c.sleepIters

/-- What TIMER.ARM(n) loads into TCOUNT: n. Above the range R170 gives its operand the value is free,
within the register's P_TIMER_WIDTH bits (log entry 10). -/
def timerLoad (c : Config) (n : Nat) : BitVec 32 :=
  if n < 2 ^ c.timerWidth then BitVec.ofNat 32 n
  else BitVec.ofNat 32 (Config.freeCount c.timerWidth n % 2 ^ c.timerWidth)

end Sys2Proof.Machine
end

