-- ==== Sys2Proof/Machine/Flags.lean ====
section
/-! DEFINITION. Every computed signal of the spec: LINE, room, hasMore, the interrupt requests, the
guards of the labels, and the codes of FSTATE, FCODE, the wire events and STATUS. -/

namespace Sys2Proof.Machine

/-- LINE = (TXEN == 1) ? 1 : LINE_GPIO (10_state.md R29). -/
def line (s : State) : Bool := if s.txen then true else s.lineGpio

/-- UART.ROOM: |FIFO| < P_FIFO_DEPTH, whatever TXEN is (43_collaborators.md R175). -/
def uartRoom (s : State) : Bool := decide (s.fifo.length < s.cfg.fifoDepth)

/-- BUF.HASMORE's compare: NEXT <= END, 16-bit unsigned (40_transmit_buffer.md R101). -/
def hasMore (s : State) : Bool := decide (s.nextCur.toNat ≤ s.endCur.toNat)

/-- timer_irq = TPEND && TIE && GIE (10_state.md R43(g), 60_exceptions.md R204). -/
def timerIrq (s : State) : Bool := s.tpend && s.tie && s.gie

/-- txe_irq = TXEIE && GIE && |FIFO| < P_FIFO_DEPTH, a level (R43(g), R205). -/
def txeIrq (s : State) : Bool := s.txeie && s.gie && uartRoom s

/-- A step can exist: the launch was not refused (R15), FCODE = 0 (R201) and REFUSED = 0 (R203). -/
def live (s : State) : Bool :=
  decide (s.refused = false ∧ s.fcode = 0 ∧ configOK s.cfg = true)

/-- Why no step of any agent exists in a state that is not live. -/
def whyStopped (s : State) : Refusal :=
  if configOK s.cfg then (if s.refused then .refLabel else .faulted) else .refConfig

/-- The guards of 30_encoding.md R80, less FCODE = 0 and REFUSED = 0 (those are `live`). A MICRO label
has no guard: a micro-operation runs when a rule calls it (R71). -/
def labelGuard (i : Instr) (s : State) : Bool :=
  match i with
  | .loopBreak => s.fstate == .break_
  | .loopInBreak => s.fstate == .inBreak
  | .loopMark => s.fstate == .mark
  | .loopInMark => s.fstate == .inMark
  | .loopBeginSend => s.fstate == .beginSend
  | .loopSending => s.fstate == .sending
  | .loopSleeping => s.fstate == .sleeping
  | .loopIllegal => s.fstate == .reserved
  | .tisrInBreak => timerIrq s && s.fstate == .inBreak
  | .tisrInMark => timerIrq s && s.fstate == .inMark
  | .tisrSpurious => timerIrq s && s.fstate != .inBreak && s.fstate != .inMark
  | .txisr => txeIrq s
  | .timerTick => s.tarmed && decide (0 < s.tcount.toNat)
  | .uartShift => s.txen && decide (0 < s.fifo.length)
  | .bufReset | .bufHasMore | .bufTakeNext | .txBurst | .txStart | .uartPush | .uartEnable
  | .uartDisable | .timerArm | .timerStop | .gpioSetLine | .gpioSetAct | .txeieSet
  | .txeieClear => true

/-- The FSTATE codes of 30_encoding.md R81. -/
def fstateCode : FState → BitVec 3
  | .break_ => 0
  | .inBreak => 1
  | .mark => 2
  | .inMark => 3
  | .beginSend => 4
  | .sending => 5
  | .sleeping => 6
  | .reserved => 7

/-- The state an FSTATE code stands for (R81). -/
def fstateOfCode (c : BitVec 3) : FState :=
  match c.toNat with
  | 0 => .break_
  | 1 => .inBreak
  | 2 => .mark
  | 3 => .inMark
  | 4 => .beginSend
  | 5 => .sending
  | 6 => .sleeping
  | _ => .reserved

/-- The fault codes of 60_exceptions.md R200. -/
def faultNumber : FaultCode → BitVec 3
  | .bufUnderrun => 1
  | .fifoOverflow => 2
  | .pushWhileDisabled => 3
  | .spuriousTimerIrq => 4
  | .illegalFstate => 5

/-- The 16-bit word KIND[15:8], DATA[7:0] (30_encoding.md R82). -/
def kindData (kind data : BitVec 8) : BitVec 16 := (kind ++ data).cast rfl

/-- The word of a wire event (R82, log entry 16). -/
def wireWord : WireEvent → BitVec 16
  | .brk => kindData 0x01 0x00
  | .mab => kindData 0x02 0x00
  | .byte b => kindData 0x03 b
  | .trunc n => kindData 0x04 (BitVec.ofNat 8 n)

/-- The wire event a word stands for; no other word occurs (R82). -/
def wireOfWord (w : BitVec 16) : Option WireEvent :=
  let data := w.extractLsb' 0 8
  match (w.extractLsb' 8 8).toNat with
  | 1 => if data = 0 then some .brk else none
  | 2 => if data = 0 then some .mab else none
  | 3 => some (.byte data)
  | 4 => if data = 0 then none else some (.trunc data.toNat)
  | _ => none

/-- A word with the flag `b` at bit `n` and zeros elsewhere. -/
def bitAt (n : Nat) (b : Bool) : BitVec 16 := (BitVec.ofBool b).setWidth 16 <<< n

/-- The 16-bit read-only STATUS snapshot, field by field (10_state.md R42). -/
def statusWord (s : State) : BitVec 16 :=
  (fstateCode s.fstate).setWidth 16
    ||| bitAt 3 s.cflag
    ||| bitAt 4 s.txen
    ||| bitAt 5 (line s)
    ||| bitAt 6 s.act
    ||| bitAt 7 s.tie
    ||| bitAt 8 s.txeie
    ||| bitAt 9 s.tarmed
    ||| bitAt 10 s.tpend
    ||| bitAt 11 s.gie
    ||| bitAt 12 s.trunc
    ||| s.fcode.setWidth 16 <<< 13

end Sys2Proof.Machine
end

