-- ==== Sys2Proof/Machine/Ops.lean ====
section
/-! DEFINITION. The shared operations: how a step ends, raising a fault, handler entry and return,
and every primitive the rules call (spec 40_transmit_buffer.md, 41_byte_stream_transmitter.md,
43_collaborators.md, 60_exceptions.md). -/

namespace Sys2Proof.Machine

/-- How an operation ends early: by `raise Fault(c)` (00_scope.md R17), or by a stop of the model. -/
inductive Halt where
  | code (c : FaultCode)
  | stop (f : Fault)
  deriving DecidableEq, Repr

/-- What an operation gives its caller: a result, or the first early end (60_exceptions.md R202). -/
abbrev Res (α : Type) := Except Halt α

/-- raise Fault(c): FCODE <- c, and nothing else of the state before the step changes (R201). -/
def raiseFault (c : FaultCode) (s : State) : State := { s with fcode := faultNumber c }

/-- A step over `s` ends with the result `r`: on a raise none of its writes are kept (R201). -/
def finish (s : State) (r : Res State) : Host.Outcome State Fault Refusal :=
  match r with
  | .ok t => .next t
  | .error (.code c) => .next (raiseFault c s)
  | .error (.stop f) => .fault f

/-- Take the step `i` over `s`, its effect being `r`: only in a live state whose guard holds (R80);
otherwise it takes no step. -/
def takeStep (i : Instr) (s : State) (r : Res State) : Host.Outcome State Fault Refusal :=
  if live s then
    if labelGuard i s then finish s r else .refused .notEnabled
  else .refused (whyStopped s)

/-- Handler entry saves no architectural state (R209). -/
def enterHandler (s : State) : State := s

/-- Handler return restores nothing and leaves GIE as it is (R210). -/
def returnFromHandler (s : State) : State := s

/-- A reserved or MICRO label in a schedule: REF_LABEL sets REFUSED and takes no step (30_encoding.md
R78, 60_exceptions.md R203, log entry 6). -/
def refuseLabel (s : State) : State := { s with refused := true }

/-- emit e: append e to WIRE (00_scope.md R17). -/
def emit (e : WireEvent) (s : State) : State := { s with wire := s.wire ++ [e] }

/-- The event of a line that goes from level `old` to level `new` (43_collaborators.md R180). -/
def edgeEvents (old new : Bool) : List WireEvent :=
  if old && !new then [.brk] else if !old && new then [.mab] else []

/-- LINE.EDGE(old) (R180). -/
def lineEdge (old : Bool) (s : State) : State := { s with wire := s.wire ++ edgeEvents old (line s) }

/-- TIMER.ARM(n) (R170). -/
def timerArm (n : Nat) (s : State) : State :=
  { s with tcount := timerLoad s.cfg n, tarmed := true, tpend := false, tie := true }

/-- TIMER.STOP (R171). -/
def timerStop (s : State) : State :=
  { s with tarmed := false, tcount := 0, tpend := false, tie := false }

/-- TIMER.TICK's effect: one count, and on reaching 0 the expiry, once (R172). -/
def timerTick (s : State) : State :=
  let t := { s with tcount := s.tcount - 1 }
  if t.tcount = 0 then { t with tarmed := false, tpend := true } else t

/-- UART.ENABLE (R173). -/
def uartEnable (s : State) : State := lineEdge (line s) { s with txen := true }

/-- The part of UART.DISABLE that discards what is still in FIFO and records it (R174). -/
def discardFifo (s : State) : State :=
  if 0 < s.fifo.length then
    { emit (.trunc s.fifo.length) s with trunc := true, fifo := [] }
  else s

/-- UART.DISABLE (R174). -/
def uartDisable (s : State) : State := lineEdge (line s) { discardFifo s with txen := false }

/-- UART.PUSH(b): the TXEN check comes first (R176, 60_exceptions.md R202). -/
def uartPush (b : Byte) (s : State) : Res State :=
  if s.txen then
    if uartRoom s then .ok { s with fifo := s.fifo ++ [b] } else .error (.code .fifoOverflow)
  else .error (.code .pushWhileDisabled)

/-- UART.SHIFT's effect: the oldest accepted byte begins on the line (R177). On an empty FIFO, where
its guard is false, there is none. -/
def uartShift (s : State) : State :=
  match s.fifo with
  | [] => s
  | b :: rest => emit (.byte b) { s with fifo := rest }

/-- GPIO.SET_LINE(v) (R178). -/
def gpioSetLine (v : Bool) (s : State) : State := lineEdge (line s) { s with lineGpio := v }

/-- GPIO.SET_ACT(v) (R179). -/
def gpioSetAct (v : Bool) (s : State) : State := { s with act := v }

/-- TXEIE.SET and TXEIE.CLEAR (R181). -/
def writeTxeie (v : Bool) (s : State) : State := { s with txeie := v }

/-- BUF.RESET (40_transmit_buffer.md R100). -/
def bufReset (s : State) : State := { s with nextCur := 0, endCur := lastIndex s.cfg }

/-- BUF.TAKENEXT: the byte at NEXT, and NEXT advanced by one (R102). -/
def bufTakeNext (s : State) : Res (Byte × State) :=
  if hasMore s then
    match memRead s.cfg s.nextCur.toNat with
    | some b => .ok (b, { s with nextCur := s.nextCur + 1 })
    | none => .error (.stop .payloadRange)
  else .error (.code .bufUnderrun)

/-- TX.BURST's loop with at most `fuel` passes, `k` bytes pushed so far (41_byte_stream_transmitter.md
R120). -/
def burstLoop : Nat → Nat → State → Res (Nat × State)
  | 0, k, s => .ok (k, s)
  | fuel + 1, k, s =>
    if uartRoom s && hasMore s then
      match bufTakeNext s with
      | .error e => .error e
      | .ok (b, s1) =>
        match uartPush b s1 with
        | .error e => .error e
        | .ok s2 => burstLoop fuel (k + 1) s2
    else .ok (k, s)

/-- TX.BURST. Each pass takes one place of FIFO, so P_FIFO_DEPTH passes are all there can be (R120,
log entry 12). -/
def txBurst (s : State) : Res (Nat × State) := burstLoop s.cfg.fifoDepth 0 s

/-- TX.START; setting TXEIE is the last write (R121). -/
def txStart (s : State) : Res State :=
  match txBurst (gpioSetAct true { s with cflag := false }) with
  | .error e => .error e
  | .ok (_, t) => .ok (writeTxeie true t)

end Sys2Proof.Machine
end

