-- ==== Sys2Proof/Machine/Buffer.lean ====
section
/-! DEFINITION. The Transmit Buffer's operations (spec 40_transmit_buffer.md R100 to R102), each run
by itself; what one returns stands in `ret` (log entry 7). -/

namespace Sys2Proof.Machine

/-- BUF.RESET (R100). -/
def execBufReset (s : State) : Host.Outcome State Fault Refusal :=
  takeStep .bufReset s (.ok (bufReset s))

/-- BUF.HASMORE (R101): no register changes. -/
def execBufHasMore (s : State) : Host.Outcome State Fault Refusal :=
  takeStep .bufHasMore s (.ok { s with ret := .flag (hasMore s) })

/-- BUF.TAKENEXT (R102). -/
def execBufTakeNext (s : State) : Host.Outcome State Fault Refusal :=
  takeStep .bufTakeNext s
    (match bufTakeNext s with
     | .error e => .error e
     | .ok (b, t) => .ok { t with ret := .byte b })

end Sys2Proof.Machine
end

