-- ==== Sys2Proof/Machine/Collaborators.lean ====
section
/-! DEFINITION. The collaborators' device steps and primitives (spec 43_collaborators.md R170 to
R181). A primitive run by itself takes its operand from `args` (30_encoding.md R83, log entry 7). -/

namespace Sys2Proof.Machine

/-- TIMER.TICK (R172). -/
def execTimerTick (s : State) : Host.Outcome State Fault Refusal :=
  takeStep .timerTick s (.ok (timerTick s))

/-- UART.SHIFT (R177). -/
def execUartShift (s : State) : Host.Outcome State Fault Refusal :=
  takeStep .uartShift s (.ok (uartShift s))

/-- UART.PUSH b (R176). -/
def execUartPush (s : State) : Host.Outcome State Fault Refusal :=
  takeStep .uartPush s (uartPush s.args.byte s)

/-- UART.ENABLE (R173). -/
def execUartEnable (s : State) : Host.Outcome State Fault Refusal :=
  takeStep .uartEnable s (.ok (uartEnable s))

/-- UART.DISABLE (R174). -/
def execUartDisable (s : State) : Host.Outcome State Fault Refusal :=
  takeStep .uartDisable s (.ok (uartDisable s))

/-- TIMER.ARM N (R170). -/
def execTimerArm (s : State) : Host.Outcome State Fault Refusal :=
  takeStep .timerArm s (.ok (timerArm s.args.ticks s))

/-- TIMER.STOP (R171). -/
def execTimerStop (s : State) : Host.Outcome State Fault Refusal :=
  takeStep .timerStop s (.ok (timerStop s))

/-- GPIO.SET_LINE v (R178). -/
def execGpioSetLine (s : State) : Host.Outcome State Fault Refusal :=
  takeStep .gpioSetLine s (.ok (gpioSetLine s.args.level s))

/-- GPIO.SET_ACT v (R179). -/
def execGpioSetAct (s : State) : Host.Outcome State Fault Refusal :=
  takeStep .gpioSetAct s (.ok (gpioSetAct s.args.level s))

/-- TXEIE.SET (R181). -/
def execTxeieSet (s : State) : Host.Outcome State Fault Refusal :=
  takeStep .txeieSet s (.ok (writeTxeie true s))

/-- TXEIE.CLEAR (R181). -/
def execTxeieClear (s : State) : Host.Outcome State Fault Refusal :=
  takeStep .txeieClear s (.ok (writeTxeie false s))

end Sys2Proof.Machine
end

