-- ==== Sys2Proof/Machine/Sequencer.lean ====
section
/-! DEFINITION. The LOOP and TIMER_ISR arms of the Frame Timing Controller (spec
42_frame_timing_controller.md R140 to R150). -/

namespace Sys2Proof.Machine

/-- LOOP.BREAK (R140). -/
def execLoopBreak (s : State) : Host.Outcome State Fault Refusal :=
  takeStep .loopBreak s
    (.ok { timerArm s.cfg.breakTicks (gpioSetLine false (uartDisable s)) with fstate := .inBreak })

/-- LOOP.IN_BREAK (R141): a poll that changes nothing. -/
def execLoopInBreak (s : State) : Host.Outcome State Fault Refusal :=
  takeStep .loopInBreak s (.ok s)

/-- LOOP.MARK (R142). -/
def execLoopMark (s : State) : Host.Outcome State Fault Refusal :=
  takeStep .loopMark s (.ok { timerArm s.cfg.markTicks s with fstate := .inMark })

/-- LOOP.IN_MARK (R143): a poll that changes nothing. -/
def execLoopInMark (s : State) : Host.Outcome State Fault Refusal :=
  takeStep .loopInMark s (.ok s)

/-- LOOP.BEGIN_SEND (R144): stop, enable, reset, start, in that order (90_conflicts.md C2). -/
def execLoopBeginSend (s : State) : Host.Outcome State Fault Refusal :=
  takeStep .loopBeginSend s
    (match txStart (bufReset (uartEnable (timerStop s))) with
     | .error e => .error e
     | .ok t => .ok { t with fstate := .sending })

/-- LOOP.SENDING (R145): CFLAG is read and not cleared. -/
def execLoopSending (s : State) : Host.Outcome State Fault Refusal :=
  takeStep .loopSending s
    (.ok (if s.cflag then
            { gpioSetAct false s with sleepCnt := spinCount s.cfg, fstate := .sleeping }
          else s))

/-- LOOP.SLEEPING (R146): one busy-wait iteration, or the move to BREAK. -/
def execLoopSleeping (s : State) : Host.Outcome State Fault Refusal :=
  takeStep .loopSleeping s
    (.ok (if s.sleepCnt = 0 then { s with fstate := .break_ }
          else { s with sleepCnt := s.sleepCnt - 1 }))

/-- LOOP.ILLEGAL (R147). -/
def execLoopIllegal (s : State) : Host.Outcome State Fault Refusal :=
  takeStep .loopIllegal s (.error (.code .illegalFstate))

/-- TISR.IN_BREAK (R148). -/
def execTisrInBreak (s : State) : Host.Outcome State Fault Refusal :=
  takeStep .tisrInBreak s
    (.ok (returnFromHandler
      { gpioSetLine true { enterHandler s with tpend := false } with fstate := .mark }))

/-- TISR.IN_MARK (R149). -/
def execTisrInMark (s : State) : Host.Outcome State Fault Refusal :=
  takeStep .tisrInMark s
    (.ok (returnFromHandler { enterHandler s with tpend := false, fstate := .beginSend }))

/-- TISR.SPURIOUS (R150). -/
def execTisrSpurious (s : State) : Host.Outcome State Fault Refusal :=
  takeStep .tisrSpurious s (.error (.code .spuriousTimerIrq))

end Sys2Proof.Machine
end

