-- ==== Sys2Proof/Machine/Transmitter.lean ====
section
/-! DEFINITION. The Byte Stream Transmitter (spec 41_byte_stream_transmitter.md R120 to R122). -/

namespace Sys2Proof.Machine

/-- TX.BURST (R120) run by itself; the count it returns stands in `ret` (log entry 7). -/
def execTxBurst (s : State) : Host.Outcome State Fault Refusal :=
  takeStep .txBurst s
    (match txBurst s with
     | .error e => .error e
     | .ok (k, t) => .ok { t with ret := .count k })

/-- TX.START (R121) run by itself. -/
def execTxStart (s : State) : Host.Outcome State Fault Refusal :=
  takeStep .txStart s (txStart s)

/-- After its burst, TXISR completes the frame if the buffer is exhausted (R122). -/
def completeIfDrained (s : State) : State :=
  if hasMore s then s else writeTxeie false { s with cflag := true }

/-- TXISR, the transmit-empty handler (R122). Clearing the peripheral's interrupt flag changes no
state, because the request is a level (60_exceptions.md R205). -/
def execTxisr (s : State) : Host.Outcome State Fault Refusal :=
  takeStep .txisr s
    (match txBurst (enterHandler s) with
     | .error e => .error e
     | .ok (_, t) => .ok (returnFromHandler (completeIfDrained t)))

end Sys2Proof.Machine
end

