-- ==== Sys2Proof/Machine/Dispatch.lean ====
section
/-! DEFINITION. One arm per label, each a call of its meaning. -/

namespace Sys2Proof.Machine

def exec (i : Instr) (s : State) : Host.Outcome State Fault Refusal :=
  match i with
  | .loopBreak => Sys2Proof.Machine.execLoopBreak s
  | .loopInBreak => Sys2Proof.Machine.execLoopInBreak s
  | .loopMark => Sys2Proof.Machine.execLoopMark s
  | .loopInMark => Sys2Proof.Machine.execLoopInMark s
  | .loopBeginSend => Sys2Proof.Machine.execLoopBeginSend s
  | .loopSending => Sys2Proof.Machine.execLoopSending s
  | .loopSleeping => Sys2Proof.Machine.execLoopSleeping s
  | .loopIllegal => Sys2Proof.Machine.execLoopIllegal s
  | .tisrInBreak => Sys2Proof.Machine.execTisrInBreak s
  | .tisrInMark => Sys2Proof.Machine.execTisrInMark s
  | .tisrSpurious => Sys2Proof.Machine.execTisrSpurious s
  | .txisr => Sys2Proof.Machine.execTxisr s
  | .timerTick => Sys2Proof.Machine.execTimerTick s
  | .uartShift => Sys2Proof.Machine.execUartShift s
  | .bufReset => Sys2Proof.Machine.execBufReset s
  | .bufHasMore => Sys2Proof.Machine.execBufHasMore s
  | .bufTakeNext => Sys2Proof.Machine.execBufTakeNext s
  | .txBurst => Sys2Proof.Machine.execTxBurst s
  | .txStart => Sys2Proof.Machine.execTxStart s
  | .uartPush => Sys2Proof.Machine.execUartPush s
  | .uartEnable => Sys2Proof.Machine.execUartEnable s
  | .uartDisable => Sys2Proof.Machine.execUartDisable s
  | .timerArm => Sys2Proof.Machine.execTimerArm s
  | .timerStop => Sys2Proof.Machine.execTimerStop s
  | .gpioSetLine => Sys2Proof.Machine.execGpioSetLine s
  | .gpioSetAct => Sys2Proof.Machine.execGpioSetAct s
  | .txeieSet => Sys2Proof.Machine.execTxeieSet s
  | .txeieClear => Sys2Proof.Machine.execTxeieClear s

end Sys2Proof.Machine
end

