-- ==== Sys2Proof/Decode.lean ====
section
/-! DEFINITION. Step-label decoding and encoding (spec 30_encoding.md R70 to R79, R84, R87). -/

namespace Sys2Proof

/-- Why a byte is no label (R78), or why no label could be read. -/
inductive Reject where
  /-- AGENT = 5 or 6. -/
  | reservedAgent
  /-- An OP the agent's rule does not list. -/
  | reservedOp
  /-- There is no byte to read. -/
  | noByte
  deriving DecidableEq, Repr

/-- AGENT = label[7:5] (R70). -/
def agentField (b : Byte) : BitVec 3 := b.extractLsb' 5 3

/-- OP = label[4:0] (R70). -/
def opField (b : Byte) : BitVec 5 := b.extractLsb' 0 5

/-- The label map of R72 to R77; every byte it does not list is reserved (R78). -/
def decodeLabel (b : Byte) : Except Reject Instr :=
  match (agentField b).toNat, (opField b).toNat with
  | 0, 0 => .ok .loopBreak
  | 0, 1 => .ok .loopInBreak
  | 0, 2 => .ok .loopMark
  | 0, 3 => .ok .loopInMark
  | 0, 4 => .ok .loopBeginSend
  | 0, 5 => .ok .loopSending
  | 0, 6 => .ok .loopSleeping
  | 0, 7 => .ok .loopIllegal
  | 1, 0 => .ok .tisrInBreak
  | 1, 1 => .ok .tisrInMark
  | 1, 2 => .ok .tisrSpurious
  | 2, 0 => .ok .txisr
  | 3, 0 => .ok .timerTick
  | 4, 0 => .ok .uartShift
  | 5, _ => .error .reservedAgent
  | 6, _ => .error .reservedAgent
  | 7, 0 => .ok .bufReset
  | 7, 1 => .ok .bufHasMore
  | 7, 2 => .ok .bufTakeNext
  | 7, 3 => .ok .txBurst
  | 7, 4 => .ok .txStart
  | 7, 5 => .ok .uartPush
  | 7, 6 => .ok .uartEnable
  | 7, 7 => .ok .uartDisable
  | 7, 8 => .ok .timerArm
  | 7, 9 => .ok .timerStop
  | 7, 10 => .ok .gpioSetLine
  | 7, 11 => .ok .gpioSetAct
  | 7, 12 => .ok .txeieSet
  | 7, 13 => .ok .txeieClear
  | _, _ => .error .reservedOp

/-- A decoder reads one byte per step (R84): the label and the bytes after it. -/
def decodeBytes : List Byte → Except Reject (Instr × List Byte)
  | [] => .error .noByte
  | b :: rest =>
    match decodeLabel b with
    | .ok i => .ok (i, rest)
    | .error e => .error e

/-- The agent of a label (R71 to R77). -/
def Instr.agent : Instr → Agent
  | .loopBreak | .loopInBreak | .loopMark | .loopInMark
  | .loopBeginSend | .loopSending | .loopSleeping | .loopIllegal => .loop
  | .tisrInBreak | .tisrInMark | .tisrSpurious => .timerIsr
  | .txisr => .txeIsr
  | .timerTick => .timer
  | .uartShift => .uart
  | .bufReset | .bufHasMore | .bufTakeNext | .txBurst | .txStart | .uartPush | .uartEnable
  | .uartDisable | .timerArm | .timerStop | .gpioSetLine | .gpioSetAct | .txeieSet
  | .txeieClear => .micro

/-- The AGENT codes of R71. -/
def Agent.code : Agent → BitVec 3
  | .loop => 0
  | .timerIsr => 1
  | .txeIsr => 2
  | .timer => 3
  | .uart => 4
  | .micro => 7

/-- The OP of a label within its agent (R72 to R77). -/
def Instr.op : Instr → BitVec 5
  | .loopBreak => 0
  | .loopInBreak => 1
  | .loopMark => 2
  | .loopInMark => 3
  | .loopBeginSend => 4
  | .loopSending => 5
  | .loopSleeping => 6
  | .loopIllegal => 7
  | .tisrInBreak => 0
  | .tisrInMark => 1
  | .tisrSpurious => 2
  | .txisr => 0
  | .timerTick => 0
  | .uartShift => 0
  | .bufReset => 0
  | .bufHasMore => 1
  | .bufTakeNext => 2
  | .txBurst => 3
  | .txStart => 4
  | .uartPush => 5
  | .uartEnable => 6
  | .uartDisable => 7
  | .timerArm => 8
  | .timerStop => 9
  | .gpioSetLine => 10
  | .gpioSetAct => 11
  | .txeieSet => 12
  | .txeieClear => 13

/-- A label is the byte AGENT, OP (R70). -/
def encode (i : Instr) : Byte := i.agent.code ++ i.op

/-- A label of AGENT 0 to 4 may stand in a schedule; a MICRO label runs only inside a step (R71). -/
def Instr.schedulable (i : Instr) : Bool := i.agent != .micro

/-- The three readings of a byte (R79). -/
inductive Reading where
  | schedulable (i : Instr)
  | micro (i : Instr)
  | reserved
  deriving DecidableEq, Repr

/-- What a byte says as a label: exactly one of the three readings (R79). -/
def readLabel (b : Byte) : Reading :=
  match decodeLabel b with
  | .ok i => if i.schedulable then .schedulable i else .micro i
  | .error _ => .reserved

/-- A schedule's encoding is its labels' bytes in order (R87). -/
def encodeSchedule (is : List Instr) : List Byte := is.map encode

/-- The schedule a byte string encodes; the first byte that is no label rejects it. -/
def decodeSchedule : List Byte → Except Reject (List Instr)
  | [] => .ok []
  | b :: rest =>
    match decodeLabel b with
    | .error e => .error e
    | .ok i =>
      match decodeSchedule rest with
      | .error e => .error e
      | .ok is => .ok (i :: is)

/-- The bytes of an `nbits`-bit table word, first byte lowest (every label is one byte, R84). -/
def tableBytes (nbits w : Nat) : List Byte := [BitVec.ofNat 8 (w % 2 ^ nbits)]

/-- The instruction the decoder reads from a word numbered as spec/opcode_table.json numbers it. -/
def decodeTableWord (nbits w : Nat) : Option Instr :=
  match decodeBytes (tableBytes nbits w) with
  | .ok (i, _) => some i
  | .error _ => none

end Sys2Proof
end

