-- ==== Sys2Proof/Machine/Fetch.lean ====
section
/-! DEFINITION. How the next label is read from the schedule (spec 30_encoding.md R84, R87), and what
it takes to place one label so that it is the next to run (log entry 13). -/

namespace Sys2Proof.Machine

/-- The next label's reading and the state with that label taken off the schedule; none at the end. -/
def fetchLabel (s : State) : Option (Reading × State) :=
  match s.schedule with
  | [] => none
  | b :: rest => some (readLabel b, { s with schedule := rest })

/-- `s` moved, where the guard of `i` (R80) does not hold in it, to where it does: FSTATE is the
block's program position (10_state.md R22), the rest are the requests and devices R80 names. An aid
for placing one label; no operation and no statement uses it (log entry 13). -/
def selectStep (i : Instr) (s : State) : State :=
  if labelGuard i s then s else
  match i with
  | .loopBreak => { s with fstate := .break_ }
  | .loopInBreak => { s with fstate := .inBreak }
  | .loopMark => { s with fstate := .mark }
  | .loopInMark => { s with fstate := .inMark }
  | .loopBeginSend => { s with fstate := .beginSend }
  | .loopSending => { s with fstate := .sending }
  | .loopSleeping => { s with fstate := .sleeping }
  | .loopIllegal => { s with fstate := .reserved }
  | .tisrInBreak => { s with tpend := true, tie := true, gie := true, fstate := .inBreak }
  | .tisrInMark => { s with tpend := true, tie := true, gie := true, fstate := .inMark }
  | .tisrSpurious => { s with tpend := true, tie := true, gie := true, fstate := .sending }
  | .txisr => { s with txeie := true, gie := true, fifo := if uartRoom s then s.fifo else [] }
  | .timerTick => { s with tarmed := true, tcount := if s.tcount = 0 then 1 else s.tcount }
  | .uartShift => { s with txen := true, fifo := if s.fifo = [] then [0x00] else s.fifo }
  | .bufReset | .bufHasMore | .bufTakeNext | .txBurst | .txStart | .uartPush | .uartEnable
  | .uartDisable | .timerArm | .timerStop | .gpioSetLine | .gpioSetAct | .txeieSet
  | .txeieClear => s

/-- `s` with the byte `b` as its whole schedule; a schedulable label is also selected. -/
def placeLabel (b : Byte) (s : State) : State :=
  match readLabel b with
  | .schedulable i => { selectStep i s with schedule := [b] }
  | .micro _ => { s with schedule := [b] }
  | .reserved => { s with schedule := [b] }

end Sys2Proof.Machine
end

