-- ==== Sys2Proof/Machine/Advance.lean ====
section
/-! DEFINITION. What one step does around `exec`: it takes the label the schedule names next (spec
30_encoding.md R78, R80, R84, R87; 60_exceptions.md R203, R218). -/

namespace Sys2Proof.Machine

/-- Run what was fetched. A reserved or MICRO label is refused with REF_LABEL and stays on the
schedule: no step is taken (R78). `s` is the state before the fetch. -/
def runFetched (s : State) : Option (Reading × State) → Host.Outcome State Fault Refusal
  | none => .refused .scheduleEnd
  | some (.schedulable i, t) => exec i t
  | some (.micro _, _) => .next (refuseLabel s)
  | some (.reserved, _) => .next (refuseLabel s)

/-- Take the next label of the schedule, where a step can exist at all. -/
def advance (s : State) : Host.Outcome State Fault Refusal :=
  if live s then runFetched s (fetchLabel s) else .refused (whyStopped s)

end Sys2Proof.Machine
end

