-- ==== Sys2Proof/Machine/Step.lean ====
section
/-! DEFINITION. One step of the machine, and how one label is placed to be the next to run. -/

namespace Sys2Proof.Machine

/-- Take the label the schedule names next. Which agent steps next is the schedule's to say, and every
order of enabled steps is some schedule (60_exceptions.md R207, R218; log entry 3). -/
def step (s : State) : Host.Outcome State Fault Refusal := advance s

/-- `s` with the `nbits`-bit word `w` placed as the label that the next step takes (log entry 13). -/
def State.withFetchWord (s : State) (nbits w : Nat) : State :=
  placeLabel (BitVec.ofNat 8 (w % 2 ^ nbits)) s

end Sys2Proof.Machine
end

