-- ==== Sys2Proof/WellFormed.lean ====
section
/-! DEFINITION. Which schedules are well formed (spec 30_encoding.md R83, R85, R86). A label has no
operand, so a label alone has nothing to check; what a schedule may hold has. -/

namespace Sys2Proof

/-- A schedule names schedulable labels only: micro-operation mnemonics never appear in one (R85). -/
def scheduleWf (is : List Instr) : Bool := is.all Instr.schedulable

/-- A pseudo-instruction's count is at least 1, and a plain line names a schedulable label (R86, R85). -/
def Pseudo.wf : Pseudo → Bool
  | .label i => i.schedulable
  | .loop => true
  | .tisr => true
  | .tick n => decide (1 ≤ n)
  | .shift n => decide (1 ≤ n)
  | .spin n => decide (1 ≤ n)

/-- A byte string is a well-formed schedule if every byte reads as a schedulable label (R78). -/
def bytesWf (bs : List Byte) : Bool :=
  bs.all fun b => match readLabel b with
    | .schedulable _ => true
    | .micro _ => false
    | .reserved => false

end Sys2Proof
end

