-- ==== Sys2Proof/Machine/Assembler.lean ====
section
/-! DEFINITION. The schedule syntax (spec 30_encoding.md R85 to R87): mnemonics, lines with comments,
pseudo-instructions and their expansion, and the hexadecimal spelling of an encoding. -/

namespace Sys2Proof.Machine

/-- The mnemonics of R72 to R77; an operand of a micro-operation is written after it in the rules. -/
def mnemonic : Instr → String
  | .loopBreak => "LOOP.BREAK"
  | .loopInBreak => "LOOP.IN_BREAK"
  | .loopMark => "LOOP.MARK"
  | .loopInMark => "LOOP.IN_MARK"
  | .loopBeginSend => "LOOP.BEGIN_SEND"
  | .loopSending => "LOOP.SENDING"
  | .loopSleeping => "LOOP.SLEEPING"
  | .loopIllegal => "LOOP.ILLEGAL"
  | .tisrInBreak => "TISR.IN_BREAK"
  | .tisrInMark => "TISR.IN_MARK"
  | .tisrSpurious => "TISR.SPURIOUS"
  | .txisr => "TXISR"
  | .timerTick => "TIMER.TICK"
  | .uartShift => "UART.SHIFT"
  | .bufReset => "BUF.RESET"
  | .bufHasMore => "BUF.HASMORE"
  | .bufTakeNext => "BUF.TAKENEXT"
  | .txBurst => "TX.BURST"
  | .txStart => "TX.START"
  | .uartPush => "UART.PUSH"
  | .uartEnable => "UART.ENABLE"
  | .uartDisable => "UART.DISABLE"
  | .timerArm => "TIMER.ARM"
  | .timerStop => "TIMER.STOP"
  | .gpioSetLine => "GPIO.SET_LINE"
  | .gpioSetAct => "GPIO.SET_ACT"
  | .txeieSet => "TXEIE.SET"
  | .txeieClear => "TXEIE.CLEAR"

/-- The labels a schedule may name (R72 to R76). -/
def schedulableLabels : List Instr :=
  [.loopBreak, .loopInBreak, .loopMark, .loopInMark, .loopBeginSend, .loopSending, .loopSleeping,
   .loopIllegal, .tisrInBreak, .tisrInMark, .tisrSpurious, .txisr, .timerTick, .uartShift]

/-- The schedulable label a mnemonic names; a micro-operation's mnemonic never appears in a schedule
(R85). -/
def labelOfMnemonic (m : List Char) : Option Instr :=
  schedulableLabels.find? fun i => decide ((mnemonic i).toList = m)

/-- The words of a line: what stands between blanks (log entry 14). -/
def words (acc : List Char) : List Char → List (List Char)
  | [] => if acc = [] then [] else [acc.reverse]
  | c :: cs =>
    if c = ' ' then (if acc = [] then words [] cs else acc.reverse :: words [] cs)
    else words (c :: acc) cs

/-- A decimal count, most significant digit first. -/
def decimal (acc : Nat) : List Char → Option Nat
  | [] => some acc
  | c :: cs =>
    if '0'.toNat ≤ c.toNat ∧ c.toNat ≤ '9'.toNat then decimal (10 * acc + (c.toNat - '0'.toNat)) cs
    else none

/-- A line of a schedule. `some none` is a line with no label on it; text after `;` is a comment (R85).
A pseudo-instruction's count is a decimal number, at least 1 (R86). -/
def parseLine (l : List Char) : Option (Option Pseudo) :=
  match words [] (l.takeWhile fun c => c ≠ ';') with
  | [] => some none
  | [w] =>
    if w = "LOOP".toList then some (some .loop)
    else if w = "TISR".toList then some (some .tisr)
    else (labelOfMnemonic w).map fun i => some (.label i)
  | [w, n] =>
    match (if n = [] then none else decimal 0 n) with
    | none => none
    | some k =>
      if k = 0 then none
      else if w = "TICK".toList then some (some (.tick k))
      else if w = "SHIFT".toList then some (some (.shift k))
      else if w = "SPIN".toList then some (some (.spin k))
      else none
  | _ => none

/-- The lines of a schedule in order; none if a line is no line of R85 or R86. -/
def parseSchedule : List (List Char) → Option (List Pseudo)
  | [] => some []
  | l :: ls =>
    match parseLine l, parseSchedule ls with
    | some none, some ps => some ps
    | some (some p), some ps => some (p :: ps)
    | _, _ => none

/-- LOOP.s, where s is FSTATE (R86, R72). -/
def loopLabel (f : FState) : Instr :=
  match f with
  | .break_ => .loopBreak
  | .inBreak => .loopInBreak
  | .mark => .loopMark
  | .inMark => .loopInMark
  | .beginSend => .loopBeginSend
  | .sending => .loopSending
  | .sleeping => .loopSleeping
  | .reserved => .loopIllegal

/-- The TIMER_ISR label for FSTATE (R86). -/
def tisrLabel (f : FState) : Instr :=
  match f with
  | .inBreak => .tisrInBreak
  | .inMark => .tisrInMark
  | .break_ | .mark | .beginSend | .sending | .sleeping | .reserved => .tisrSpurious

/-- A line's labels, against the state the schedule reaches there (R86). -/
def expand (s : State) : Pseudo → List Instr
  | .label i => [i]
  | .loop => [loopLabel s.fstate]
  | .tisr => [tisrLabel s.fstate]
  | .tick n => List.replicate n .timerTick
  | .shift n => List.replicate n .uartShift
  | .spin n => List.replicate n .loopSleeping

/-- The state a line's labels reach from `s`: at a label that takes no step it stays where it is, and the
line's labels behind that one are skipped (R80; DESIGN CHOICE, log entry 14). -/
def reach (s : State) : List Instr → State
  | [] => s
  | i :: is =>
    match exec i s with
    | .next t => reach t is
    | .fault _ => s
    | .refused _ => s

/-- A schedule's labels, each line expanded against the state reached at that point (R86). DESIGN CHOICE
(log entry 14): behind a line that is stuck, where the spec names no reached state, each later line
still moves the state from where the line before it left it. -/
def assemble (s : State) : List Pseudo → List Instr
  | [] => []
  | p :: ps => expand s p ++ assemble (reach s (expand s p)) ps

/-- One hexadecimal digit. -/
def hexDigit (n : Nat) : Char :=
  if n < 10 then Char.ofNat ('0'.toNat + n) else Char.ofNat ('A'.toNat + (n - 10))

/-- An encoding written in hexadecimal with spaces, first step first (R87). -/
def hexSpelling : List Byte → List Char
  | [] => []
  | [b] => [hexDigit (b.toNat / 16), hexDigit (b.toNat % 16)]
  | b :: bs => hexDigit (b.toNat / 16) :: hexDigit (b.toNat % 16) :: ' ' :: hexSpelling bs

end Sys2Proof.Machine
end

