-- ==== Sys2Proof/Safety.lean ====
section
/-! DEFINITION. The terms claims are stated in: transitions, reachable states, the invariants of spec
42_frame_timing_controller.md R155, frames on the wire (R153), infinite fair runs
(70_reset_and_hazards.md R254, R256). -/

namespace Sys2Proof.Machine

/-- `i` is an atomic step of an agent from `s` to `t` (00_scope.md R5, log entry 15). -/
def Trans (s : State) (i : Instr) (t : State) : Prop :=
  i.schedulable = true ∧ exec i s = .next t

/-- `i` takes a step in `s`: its label is enabled there (30_encoding.md R80). -/
def Takes (i : Instr) (s : State) : Prop := ∀ r, exec i s ≠ .refused r

/-- `is`, taken in order from `s`, are steps that end in `t`. -/
inductive Path : State → List Instr → State → Prop where
  | nil (s : State) : Path s [] s
  | cons {s m t : State} {i : Instr} {is : List Instr} :
      Trans s i m → Path m is t → Path s (i :: is) t

/-- The states the machine reaches from a launch under `c`, over every schedule (60_exceptions.md R218). -/
inductive Reachable (c : Config) : State → Prop where
  | launch (bs : List Byte) : Reachable c (State.launchWith c bs)
  | step {s t : State} : Reachable c s → step s = .next t → Reachable c t

/-- The successor in the cycle BREAK, IN_BREAK, MARK, IN_MARK, BEGIN_SEND, SENDING, SLEEPING, BREAK
(10_state.md R22). The reserved code has none; it is its own here. -/
def cycleNext : FState → FState
  | .break_ => .inBreak
  | .inBreak => .mark
  | .mark => .inMark
  | .inMark => .beginSend
  | .beginSend => .sending
  | .sending => .sleeping
  | .sleeping => .break_
  | .reserved => .reserved

/-- The driver of each transition of the cycle (R151). -/
def driver : FState → Agent
  | .break_ | .mark | .beginSend | .sending | .sleeping | .reserved => .loop
  | .inBreak | .inMark => .timerIsr

/- The invariants of R155, one by one. -/

/-- I1: 0 <= NEXT <= P_LEN and END = P_LEN - 1. -/
abbrev I1 (s : State) : Prop :=
  s.nextCur.toNat ≤ s.cfg.len ∧ s.endCur.toNat = s.cfg.len - 1
/-- I2: |FIFO| <= P_FIFO_DEPTH. -/
abbrev I2 (s : State) : Prop := s.fifo.length ≤ s.cfg.fifoDepth
/-- I3: TARMED = 1 or TPEND = 1 implies FSTATE in IN_BREAK, IN_MARK. -/
abbrev I3 (s : State) : Prop :=
  s.tarmed = true ∨ s.tpend = true → s.fstate = .inBreak ∨ s.fstate = .inMark
/-- I4: TIE = 1 implies FSTATE in IN_BREAK, MARK, IN_MARK, BEGIN_SEND. -/
abbrev I4 (s : State) : Prop :=
  s.tie = true →
    s.fstate = .inBreak ∨ s.fstate = .mark ∨ s.fstate = .inMark ∨ s.fstate = .beginSend
/-- I5: TXEIE = 1 implies FSTATE = SENDING and CFLAG = 0 and TXEN = 1. -/
abbrev I5 (s : State) : Prop :=
  s.txeie = true → s.fstate = .sending ∧ s.cflag = false ∧ s.txen = true
/-- I6: TIE = 1 and TXEIE = 1 never hold together. -/
abbrev I6 (s : State) : Prop := ¬(s.tie = true ∧ s.txeie = true)
/-- I7: TXEN = 0 implies FIFO is empty. -/
abbrev I7 (s : State) : Prop := s.txen = false → s.fifo = []
/-- I8: TXEN = 1 implies FSTATE in SENDING, SLEEPING, BREAK. -/
abbrev I8 (s : State) : Prop :=
  s.txen = true → s.fstate = .sending ∨ s.fstate = .sleeping ∨ s.fstate = .break_
/-- I9: LINE_GPIO = 0 if and only if FSTATE = IN_BREAK. -/
abbrev I9 (s : State) : Prop := s.lineGpio = false ↔ s.fstate = .inBreak
/-- I10: ACT = 1 if and only if FSTATE = SENDING. -/
abbrev I10 (s : State) : Prop := s.act = true ↔ s.fstate = .sending
/-- I11: SLEEPCNT != 0 implies FSTATE = SLEEPING. -/
abbrev I11 (s : State) : Prop := s.sleepCnt ≠ 0 → s.fstate = .sleeping
/-- I12: TPEND = 1 implies TARMED = 0 and TCOUNT = 0. -/
abbrev I12 (s : State) : Prop := s.tpend = true → s.tarmed = false ∧ s.tcount = 0
/-- I13: TARMED = 1 implies TCOUNT >= 1. -/
abbrev I13 (s : State) : Prop := s.tarmed = true → 1 ≤ s.tcount.toNat
/-- I14: CFLAG = 1 implies NEXT = P_LEN and TXEIE = 0. -/
abbrev I14 (s : State) : Prop :=
  s.cflag = true → s.nextCur.toNat = s.cfg.len ∧ s.txeie = false
/-- I15: FSTATE != 7. -/
abbrev I15 (s : State) : Prop := s.fstate ≠ .reserved

/-- All of R155's invariants. -/
abbrev Invariants (s : State) : Prop :=
  I1 s ∧ I2 s ∧ I3 s ∧ I4 s ∧ I5 s ∧ I6 s ∧ I7 s ∧ I8 s ∧ I9 s ∧ I10 s ∧ I11 s ∧ I12 s ∧ I13 s
    ∧ I14 s ∧ I15 s

/-- How many bytes a burst pushes: min(P_FIFO_DEPTH - |FIFO|, END + 1 - NEXT) (41_byte_stream_transmitter.md
R120). -/
def burstCount (s : State) : Nat :=
  min (s.cfg.fifoDepth - s.fifo.length) (s.endCur.toNat + 1 - s.nextCur.toNat)

/-- TCOUNT holds no more than P_TIMER_WIDTH bits (10_state.md R35). -/
abbrev TcountFits (s : State) : Prop := s.tcount.toNat < 2 ^ s.cfg.timerWidth

/-- A frame on the wire of which `k` bytes were sent, with the TRUNC that stands before the next
frame's BRK exactly when k < P_LEN (R153). -/
def wireFrame (c : Config) (k : Nat) : List WireEvent :=
  [.brk, .mab] ++ (c.payload.take k).map .byte
    ++ (if k < c.len then [.trunc (c.len - k)] else [])

/-- The wire of a run of whole frames, the i-th with `ks[i]` bytes sent (R153). -/
def wireFrames (c : Config) (ks : List Nat) : List WireEvent := (ks.map (wireFrame c)).flatten

/-- `m` calls of BUF.TAKENEXT in a row, with the bytes they return (40_transmit_buffer.md R103). -/
def takeMany : Nat → State → Option (List Byte × State)
  | 0, s => some ([], s)
  | m + 1, s =>
    match bufTakeNext s with
    | .error _ => none
    | .ok (b, t) =>
      match takeMany m t with
      | none => none
      | some (bs, u) => some (b :: bs, u)

/-- An infinite run from a launch under `c`: states and the labels taken between them (R254). -/
structure Run (c : Config) where
  at_   : Nat → State
  label : Nat → Instr
  start : at_ 0 = State.launch c
  steps : ∀ n, Trans (at_ n) (label n) (at_ (n + 1))

/-- Some label of the agent is enabled in `s` (30_encoding.md R80). -/
def agentEnabled (a : Agent) (s : State) : Prop :=
  ∃ i : Instr, i.agent = a ∧ i.schedulable = true ∧ live s = true ∧ labelGuard i s = true

/-- Weak fairness for every agent: one whose step stays enabled from some point on is taken
eventually (R256). -/
def Run.WeaklyFair {c : Config} (r : Run c) : Prop :=
  ∀ a n, (∀ m, n ≤ m → agentEnabled a (r.at_ m)) → ∃ m, n ≤ m ∧ (r.label m).agent = a

end Sys2Proof.Machine
end

