-- ==== Sys2Proof/Certificates/Slice0/Obligations.lean ====
section
/-! DEFINITION. The statements for the provers. A statement of an instruction's result gives the whole
next state as an update of the state before: what the update does not name is unchanged, which is the
instruction's frame (every register, WIRE, FIFO, the payload in `cfg`). -/

open Sys2Proof Sys2Proof.Machine

/- ## Encodings -/

/-- Every label of R72 to R77 decodes to its operation, and every byte those rules call reserved is. -/
def Obligations.LabelMapIsAsTabled : Prop :=
  (decodeLabel 0x00 = .ok .loopBreak ∧ decodeLabel 0x01 = .ok .loopInBreak ∧
    decodeLabel 0x02 = .ok .loopMark ∧ decodeLabel 0x03 = .ok .loopInMark ∧
    decodeLabel 0x04 = .ok .loopBeginSend ∧ decodeLabel 0x05 = .ok .loopSending ∧
    decodeLabel 0x06 = .ok .loopSleeping ∧ decodeLabel 0x07 = .ok .loopIllegal) ∧
  (decodeLabel 0x20 = .ok .tisrInBreak ∧ decodeLabel 0x21 = .ok .tisrInMark ∧
    decodeLabel 0x22 = .ok .tisrSpurious ∧ decodeLabel 0x40 = .ok .txisr ∧
    decodeLabel 0x60 = .ok .timerTick ∧ decodeLabel 0x80 = .ok .uartShift) ∧
  (decodeLabel 0xE0 = .ok .bufReset ∧ decodeLabel 0xE1 = .ok .bufHasMore ∧
    decodeLabel 0xE2 = .ok .bufTakeNext ∧ decodeLabel 0xE3 = .ok .txBurst ∧
    decodeLabel 0xE4 = .ok .txStart ∧ decodeLabel 0xE5 = .ok .uartPush ∧
    decodeLabel 0xE6 = .ok .uartEnable ∧ decodeLabel 0xE7 = .ok .uartDisable ∧
    decodeLabel 0xE8 = .ok .timerArm ∧ decodeLabel 0xE9 = .ok .timerStop ∧
    decodeLabel 0xEA = .ok .gpioSetLine ∧ decodeLabel 0xEB = .ok .gpioSetAct ∧
    decodeLabel 0xEC = .ok .txeieSet ∧ decodeLabel 0xED = .ok .txeieClear) ∧
  (∀ i : Instr, i.schedulable = false ↔ 0xE0 ≤ (encode i).toNat ∧ (encode i).toNat ≤ 0xED) ∧
  ∀ b : Byte,
    (0x08 ≤ b.toNat ∧ b.toNat ≤ 0x1F ∨ 0x23 ≤ b.toNat ∧ b.toNat ≤ 0x3F ∨
      0x41 ≤ b.toNat ∧ b.toNat ≤ 0x5F ∨ 0x61 ≤ b.toNat ∧ b.toNat ≤ 0x7F ∨
      0x81 ≤ b.toNat ∧ b.toNat ≤ 0x9F ∨ 0xEE ≤ b.toNat) → readLabel b = .reserved

/-- R70 and R71: a label is {AGENT[7:5], OP[4:0]}; the AGENT codes; AGENT 0 to 4 are the schedulable
agents, 5 and 6 are reserved, 7 is MICRO. -/
def Obligations.LabelIsAgentAndOp : Prop :=
  (∀ i : Instr, agentField (encode i) = i.agent.code ∧ opField (encode i) = i.op ∧
    (i.schedulable = true ↔ (agentField (encode i)).toNat ≤ 4)) ∧
  Agent.loop.code = 0 ∧ Agent.timerIsr.code = 1 ∧ Agent.txeIsr.code = 2 ∧ Agent.timer.code = 3 ∧
  Agent.uart.code = 4 ∧ Agent.micro.code = 7 ∧
  ∀ b : Byte, agentField b = 5 ∨ agentField b = 6 → decodeLabel b = .error .reservedAgent

/-- R79: every byte has exactly one reading, and no two bytes name the same operation. -/
def Obligations.EveryByteHasOneReading : Prop :=
  ∀ b : Byte,
    (∃ i : Instr, i.schedulable = true ∧ encode i = b ∧ readLabel b = .schedulable i) ∨
    (∃ i : Instr, i.schedulable = false ∧ encode i = b ∧ readLabel b = .micro i) ∨
    ((∀ i : Instr, encode i ≠ b) ∧ readLabel b = .reserved)

/-- Decoding what was encoded gives it back, as a byte, as bytes with a rest, and as a table word. -/
def Obligations.DecodeOfEncodeIsTheLabel : Prop :=
  ∀ i : Instr, decodeLabel (encode i) = .ok i ∧
    (∀ rest : List Byte, decodeBytes (encode i :: rest) = .ok (i, rest)) ∧
    decodeTableWord 8 (encode i).toNat = some i

/-- Schedules and byte strings: encoding then decoding gives the schedule back, whatever stands
before and after it, and the only bytes that decode to a schedule are its encoding. -/
def Obligations.ScheduleEncodingRoundTrips : Prop :=
  (∀ is js : List Instr, decodeSchedule (encodeSchedule is ++ encodeSchedule js) = .ok (is ++ js)) ∧
  (∀ (bs : List Byte) (is : List Instr), decodeSchedule bs = .ok is → encodeSchedule is = bs) ∧
  (∀ bs : List Byte, bytesWf bs = true →
    ∃ is, decodeSchedule bs = .ok is ∧ scheduleWf is = true)

/-- R81: the FSTATE codes 0 to 7, in the source's order. -/
def Obligations.FrameStateCodes : Prop :=
  fstateCode .break_ = 0 ∧ fstateCode .inBreak = 1 ∧ fstateCode .mark = 2 ∧
  fstateCode .inMark = 3 ∧ fstateCode .beginSend = 4 ∧ fstateCode .sending = 5 ∧
  fstateCode .sleeping = 6 ∧ fstateCode .reserved = 7 ∧
  (∀ f : FState, fstateOfCode (fstateCode f) = f) ∧
  ∀ c : BitVec 3, fstateCode (fstateOfCode c) = c

/-- R82: the wire-event words, and no word of another form stands for an event. -/
def Obligations.WireEventWords : Prop :=
  wireWord .brk = 0x0100 ∧ wireWord .mab = 0x0200 ∧
  (∀ b : Byte, (wireWord (.byte b)).toNat = 0x0300 + b.toNat) ∧
  (∀ n, 1 ≤ n → n ≤ 255 → (wireWord (.trunc n)).toNat = 0x0400 + n) ∧
  (∀ e : WireEvent, (∀ n, e = .trunc n → 1 ≤ n ∧ n ≤ 255) → wireOfWord (wireWord e) = some e) ∧
  ∀ (w : BitVec 16) (e : WireEvent), wireOfWord w = some e → wireWord e = w

/-- R42: the fields of the STATUS word, in every state, and its value at launch. -/
def Obligations.StatusWordLayout : Prop :=
  (∀ s : State,
    (statusWord s).extractLsb' 0 3 = fstateCode s.fstate ∧
    (statusWord s).getLsbD 3 = s.cflag ∧
    (statusWord s).getLsbD 4 = s.txen ∧
    (statusWord s).getLsbD 5 = (s.txen || s.lineGpio) ∧
    (statusWord s).getLsbD 6 = s.act ∧
    (statusWord s).getLsbD 7 = s.tie ∧
    (statusWord s).getLsbD 8 = s.txeie ∧
    (statusWord s).getLsbD 9 = s.tarmed ∧
    (statusWord s).getLsbD 10 = s.tpend ∧
    (statusWord s).getLsbD 11 = s.gie ∧
    (statusWord s).getLsbD 12 = s.trunc ∧
    (statusWord s).extractLsb' 13 3 = s.fcode) ∧
  ∀ c : Config, statusWord (State.launch c) = 0x0820

/-- R86: the expansions of the pseudo-instructions, each against the state reached at that point. -/
def Obligations.PseudoInstructionsExpand : Prop :=
  (∀ s : State, ∃ i : Instr, expand s .loop = [i] ∧ i.agent = .loop ∧
    (encode i).toNat = (fstateCode s.fstate).toNat) ∧
  (∀ s : State, expand s .tisr =
    [if s.fstate = .inBreak then .tisrInBreak
     else if s.fstate = .inMark then .tisrInMark else .tisrSpurious]) ∧
  (∀ (s : State) (n : Nat), expand s (.tick n) = List.replicate n .timerTick ∧
    expand s (.shift n) = List.replicate n .uartShift ∧
    expand s (.spin n) = List.replicate n .loopSleeping ∧
    ((Pseudo.tick n).wf = true ↔ 1 ≤ n) ∧ ((Pseudo.shift n).wf = true ↔ 1 ≤ n) ∧
    ((Pseudo.spin n).wf = true ↔ 1 ≤ n)) ∧
  ∀ (s t : State) (p : Pseudo) (ps : List Pseudo), Path s (expand s p) t →
    assemble s (p :: ps) = expand s p ++ assemble t ps

/- ## Launch -/

/-- R240: the launch state under every admissible parameter set, register by register. -/
def Obligations.LaunchStateIsAsTabled : Prop :=
  ∀ c : Config, configOK c = true →
    (State.launch c).fstate = .break_ ∧ (State.launch c).cflag = false ∧
    (State.launch c).nextCur = 0 ∧ (State.launch c).endCur.toNat = c.len - 1 ∧
    (State.launch c).sleepCnt = 0 ∧ (State.launch c).act = false ∧
    (State.launch c).lineGpio = true ∧ line (State.launch c) = true ∧
    (State.launch c).txen = false ∧ (State.launch c).txeie = false ∧
    (State.launch c).fifo = [] ∧ (State.launch c).tie = false ∧
    (State.launch c).tarmed = false ∧ (State.launch c).tcount = 0 ∧
    (State.launch c).tpend = false ∧ (State.launch c).gie = true ∧
    (State.launch c).trunc = false ∧ (State.launch c).wire = [] ∧
    (State.launch c).fcode = 0 ∧ (State.launch c).refused = false ∧
    statusWord (State.launch c) = 0x0820

/-- R15: the launch check, and that a launch which breaks it has REFUSED = 1 and no step at all. -/
def Obligations.LaunchCheckRefusesBadParameters : Prop :=
  ∀ c : Config,
    (configOK c = true ↔
      1 ≤ c.len ∧ c.len ≤ 513 ∧ c.payload.length = c.len ∧ c.payload[0]? = some 0x00 ∧
      1 ≤ c.fifoDepth ∧ c.fifoDepth ≤ 255 ∧ 1 ≤ c.timerWidth ∧ c.timerWidth ≤ 32 ∧
      1 ≤ c.breakTicks ∧ c.breakTicks ≤ 2 ^ c.timerWidth - 1 ∧
      1 ≤ c.markTicks ∧ c.markTicks ≤ 2 ^ c.timerWidth - 1 ∧ c.sleepIters ≤ 2 ^ 32 - 1) ∧
    ((State.launch c).refused = true ↔ configOK c = false) ∧
    (configOK c = false → ∀ bs : List Byte, step (State.launchWith c bs) = .refused .refConfig)

/-- At launch the one label that takes a step is LOOP.BREAK, 0x00 (the spec derives this in R242 from
the launch state and the guards). -/
def Obligations.OnlyLoopBreakIsEnabledAtLaunch : Prop :=
  ∀ (c : Config) (b : Byte) (rest : List Byte), configOK c = true →
    ((∃ t, step (State.launchWith c (b :: rest)) = .next t ∧ t.refused = false) ↔ b = 0x00)

/-- R250: the two timing premises are arithmetic on the parameters, and a launch that fails one or both is
not refused and takes its first step; there is a launch that fails both. -/
def Obligations.TimingPremisesAreNotChecked : Prop :=
  (∀ c : Config, 0 < c.tickHz →
    (breakPremise c = true ↔ (88 : ℚ) / 1000000 ≤ (c.breakTicks : ℚ) / (c.tickHz : ℚ)) ∧
    (markPremise c = true ↔ (8 : ℚ) / 1000000 ≤ (c.markTicks : ℚ) / (c.tickHz : ℚ))) ∧
  (∀ c : Config, configOK c = true → breakPremise c = false ∨ markPremise c = false →
    (State.launch c).refused = false ∧ ∃ t, step (State.launchWith c [0x00]) = .next t) ∧
  ∃ c : Config, configOK c = true ∧ breakPremise c = false ∧ markPremise c = false

/- ## Steps, enabling and faults -/

/-- A step runs the decoded label: where a step can exist, the next byte of the schedule is taken off
it and exec runs its label on what is left. (The schedule is the model's own field, log entry 3.) -/
def Obligations.StepRunsTheScheduledLabel : Prop :=
  ∀ (s : State) (b : Byte) (rest : List Byte) (i : Instr),
    configOK s.cfg = true → s.fcode = 0 → s.refused = false →
    s.schedule = b :: rest → decodeLabel b = .ok i → i.schedulable = true →
    step s = exec i { s with schedule := rest }

/-- A reserved label or a MICRO label in a schedule sets REFUSED and takes no step (R78), and no further
step exists (R203). That the refused label stays at the head of the schedule is the model's choice (log
entry 6). -/
def Obligations.ReservedAndMicroLabelsAreRefused : Prop :=
  ∀ (s : State) (b : Byte) (rest : List Byte),
    configOK s.cfg = true → s.fcode = 0 → s.refused = false → s.schedule = b :: rest →
    (0xA0 ≤ b.toNat ∧ b.toNat ≤ 0xDF ∨ 0x08 ≤ b.toNat ∧ b.toNat ≤ 0x1F ∨
      0x23 ≤ b.toNat ∧ b.toNat ≤ 0x3F ∨ 0x41 ≤ b.toNat ∧ b.toNat ≤ 0x5F ∨
      0x61 ≤ b.toNat ∧ b.toNat ≤ 0x7F ∨ 0x81 ≤ b.toNat ∧ b.toNat ≤ 0x9F ∨
      0xEE ≤ b.toNat ∨ 0xE0 ≤ b.toNat ∧ b.toNat ≤ 0xED) →
    step s = .next { s with refused := true } ∧
    ∀ bs : List Byte, step { s with refused := true, schedule := bs } = .refused .refLabel

/-- When each schedulable label takes a step (R80), and that one whose guard is false takes none and does
not fault. That it is answered with the refusal notEnabled is the model's choice (log entry 5). -/
def Obligations.GuardsDecideWhichLabelsStep : Prop :=
  ∀ s : State,
    (configOK s.cfg = false ∨ s.fcode ≠ 0 ∨ s.refused = true → ∀ i : Instr, ¬Takes i s) ∧
    (configOK s.cfg = true → s.fcode = 0 → s.refused = false →
      (∀ i : Instr, ¬Takes i s → exec i s = .refused .notEnabled) ∧
      (Takes .loopBreak s ↔ s.fstate = .break_) ∧
      (Takes .loopInBreak s ↔ s.fstate = .inBreak) ∧
      (Takes .loopMark s ↔ s.fstate = .mark) ∧
      (Takes .loopInMark s ↔ s.fstate = .inMark) ∧
      (Takes .loopBeginSend s ↔ s.fstate = .beginSend) ∧
      (Takes .loopSending s ↔ s.fstate = .sending) ∧
      (Takes .loopSleeping s ↔ s.fstate = .sleeping) ∧
      (Takes .loopIllegal s ↔ s.fstate = .reserved) ∧
      (Takes .tisrInBreak s ↔
        s.tpend = true ∧ s.tie = true ∧ s.gie = true ∧ s.fstate = .inBreak) ∧
      (Takes .tisrInMark s ↔
        s.tpend = true ∧ s.tie = true ∧ s.gie = true ∧ s.fstate = .inMark) ∧
      (Takes .tisrSpurious s ↔
        s.tpend = true ∧ s.tie = true ∧ s.gie = true ∧ s.fstate ≠ .inBreak ∧ s.fstate ≠ .inMark) ∧
      (Takes .txisr s ↔ s.txeie = true ∧ s.gie = true ∧ s.fifo.length < s.cfg.fifoDepth) ∧
      (Takes .timerTick s ↔ s.tarmed = true ∧ 0 < s.tcount.toNat) ∧
      (Takes .uartShift s ↔ s.txen = true ∧ 0 < s.fifo.length))

/-- In every state in which a step can exist exactly one LOOP label is enabled, and at most one
TIMER_ISR label (the spec derives this in R80 and R218 from the guards). -/
def Obligations.LoopAlwaysHasOneEnabledArm : Prop :=
  ∀ s : State, configOK s.cfg = true → s.fcode = 0 → s.refused = false →
    (∃ i : Instr, i.agent = .loop ∧ Takes i s ∧
      ∀ j : Instr, j.agent = .loop → Takes j s → j = i) ∧
    ∀ i j : Instr, i.agent = .timerIsr → j.agent = .timerIsr → Takes i s → Takes j s → i = j

/-- R201: a step that raises a fault keeps none of its writes and sets FCODE to a fault's code; from
then on no label of any agent is enabled, so FCODE is never cleared. -/
def Obligations.FaultKeepsNoOtherWriteAndIsFinal : Prop :=
  (∀ (i : Instr) (s t : State), exec i s = .next t → t.fcode ≠ 0 →
    t = { s with fcode := t.fcode } ∧ s.fcode = 0 ∧ 1 ≤ t.fcode.toNat ∧ t.fcode.toNat ≤ 5) ∧
  ∀ s : State, s.fcode ≠ 0 → (∀ i : Instr, ¬Takes i s) ∧ ∃ r, step s = .refused r

/- ## The arms of LOOP and TIMER_ISR -/

/-- R140: LOOP.BREAK. Queued bytes are discarded and recorded before BRK; NEXT and END are kept. -/
def Obligations.LoopBreakPullsTheLineLowAndArms : Prop :=
  encode .loopBreak = 0x00 ∧
  ∀ s : State, configOK s.cfg = true → s.fcode = 0 → s.refused = false → s.fstate = .break_ →
    exec .loopBreak s = .next { s with
      txen := false, lineGpio := false, fifo := [],
      trunc := s.trunc || !s.fifo.isEmpty,
      wire := s.wire ++ (if s.fifo = [] then [] else [.trunc s.fifo.length])
        ++ (if s.txen = true ∨ s.lineGpio = true then [.brk] else []),
      tcount := BitVec.ofNat 32 s.cfg.breakTicks, tarmed := true, tpend := false, tie := true,
      fstate := .inBreak }

/-- R141, R143 and the poll of R145: polls change nothing, however often they are taken. -/
def Obligations.PollsChangeNothing : Prop :=
  encode .loopInBreak = 0x01 ∧ encode .loopInMark = 0x03 ∧
  ∀ s : State, configOK s.cfg = true → s.fcode = 0 → s.refused = false →
    (s.fstate = .inBreak → exec .loopInBreak s = .next s ∧
      ∀ n, Path s (List.replicate n .loopInBreak) s) ∧
    (s.fstate = .inMark → exec .loopInMark s = .next s ∧
      ∀ n, Path s (List.replicate n .loopInMark) s) ∧
    (s.fstate = .sending → s.cflag = false → exec .loopSending s = .next s ∧
      ∀ n, Path s (List.replicate n .loopSending) s)

/-- R142: LOOP.MARK. -/
def Obligations.LoopMarkArmsTheMark : Prop :=
  encode .loopMark = 0x02 ∧
  ∀ s : State, configOK s.cfg = true → s.fcode = 0 → s.refused = false → s.fstate = .mark →
    exec .loopMark s = .next { s with
      tcount := BitVec.ofNat 32 s.cfg.markTicks, tarmed := true, tpend := false, tie := true,
      fstate := .inMark }

/-- R144: LOOP.BEGIN_SEND stops the timer, enables the transmitter, resets the buffer and pushes the
first burst: the payload's first min(room, P_LEN) bytes. CFLAG is 0 even if that is all of them. -/
def Obligations.LoopBeginSendStartsTheFrame : Prop :=
  encode .loopBeginSend = 0x04 ∧
  ∀ s : State, configOK s.cfg = true → s.fcode = 0 → s.refused = false → s.fstate = .beginSend →
    exec .loopBeginSend s = .next { s with
      tarmed := false, tcount := 0, tpend := false, tie := false, txen := true,
      wire := s.wire ++ (if s.txen = true ∨ s.lineGpio = true then [] else [.mab]),
      endCur := BitVec.ofNat 16 (s.cfg.len - 1),
      nextCur := BitVec.ofNat 16 (min (s.cfg.fifoDepth - s.fifo.length) s.cfg.len),
      fifo := s.fifo ++ s.cfg.payload.take (min (s.cfg.fifoDepth - s.fifo.length) s.cfg.len),
      cflag := false, act := true, txeie := true, fstate := .sending }

/-- R145: LOOP.SENDING moves to SLEEPING when CFLAG = 1, without clearing it, and polls otherwise. -/
def Obligations.LoopSendingWaitsForCompletion : Prop :=
  encode .loopSending = 0x05 ∧
  ∀ s : State, configOK s.cfg = true → s.fcode = 0 → s.refused = false → s.fstate = .sending →
    (s.cflag = true → exec .loopSending s = .next { s with
      act := false, sleepCnt := BitVec.ofNat 32 s.cfg.sleepIters, fstate := .sleeping }) ∧
    (s.cflag = false → exec .loopSending s = .next s)

/-- R146: LOOP.SLEEPING counts one iteration a step, so SLEEPCNT + 1 steps lead to BREAK. -/
def Obligations.LoopSleepingSpinsThenBreaks : Prop :=
  encode .loopSleeping = 0x06 ∧
  ∀ s : State, configOK s.cfg = true → s.fcode = 0 → s.refused = false → s.fstate = .sleeping →
    (s.sleepCnt = 0 → exec .loopSleeping s = .next { s with fstate := .break_ }) ∧
    (s.sleepCnt ≠ 0 → exec .loopSleeping s = .next { s with
      sleepCnt := BitVec.ofNat 32 (s.sleepCnt.toNat - 1) }) ∧
    Path s (List.replicate (s.sleepCnt.toNat + 1) .loopSleeping)
      { s with sleepCnt := 0, fstate := .break_ }

/-- R147 and R150: the two arms that only raise. Their effect is the fault (log entry 4). -/
def Obligations.IllegalAndSpuriousArmsFault : Prop :=
  encode .loopIllegal = 0x07 ∧ encode .tisrSpurious = 0x22 ∧
  ∀ s : State, configOK s.cfg = true → s.fcode = 0 → s.refused = false →
    (s.fstate = .reserved → exec .loopIllegal s = .next { s with fcode := 5 }) ∧
    (s.tpend = true → s.tie = true → s.gie = true → s.fstate ≠ .inBreak → s.fstate ≠ .inMark →
      exec .tisrSpurious s = .next { s with fcode := 4 })

/-- R148: TISR.IN_BREAK releases the line, which emits MAB where the line was low. -/
def Obligations.TisrInBreakReleasesTheLine : Prop :=
  encode .tisrInBreak = 0x20 ∧
  ∀ s : State, configOK s.cfg = true → s.fcode = 0 → s.refused = false →
    s.tpend = true → s.tie = true → s.gie = true → s.fstate = .inBreak →
    exec .tisrInBreak s = .next { s with
      tpend := false, lineGpio := true,
      wire := s.wire ++ (if s.txen = true ∨ s.lineGpio = true then [] else [.mab]),
      fstate := .mark }

/-- R149: TISR.IN_MARK moves to BEGIN_SEND. -/
def Obligations.TisrInMarkMovesToBeginSend : Prop :=
  encode .tisrInMark = 0x21 ∧
  ∀ s : State, configOK s.cfg = true → s.fcode = 0 → s.refused = false →
    s.tpend = true → s.tie = true → s.gie = true → s.fstate = .inMark →
    exec .tisrInMark s = .next { s with tpend := false, fstate := .beginSend }

/- ## The transmitter and its handler -/

/-- R122: TXISR. `burstCount` bytes go from the payload at NEXT into FIFO; CFLAG is set and TXEIE
cleared exactly when nothing is left. With the transmitter disabled a byte to push faults with code 3.
(END < P_LEN is I1 of R155; other cursors are constructed states, log entry 11.) -/
def Obligations.TxisrDrainsAndCompletes : Prop :=
  encode .txisr = 0x40 ∧
  ∀ s : State, configOK s.cfg = true → s.fcode = 0 → s.refused = false →
    s.txeie = true → s.gie = true → s.fifo.length < s.cfg.fifoDepth → s.endCur.toNat < s.cfg.len →
    (s.txen = true ∨ s.endCur.toNat < s.nextCur.toNat → exec .txisr s = .next { s with
      fifo := s.fifo ++ (s.cfg.payload.drop s.nextCur.toNat).take (burstCount s),
      nextCur := BitVec.ofNat 16 (s.nextCur.toNat + burstCount s),
      cflag := s.cflag || decide (s.endCur.toNat < s.nextCur.toNat + burstCount s),
      txeie := decide (s.nextCur.toNat + burstCount s ≤ s.endCur.toNat) }) ∧
    (s.txen = false → s.nextCur.toNat ≤ s.endCur.toNat →
      exec .txisr s = .next { s with fcode := 3 })

/-- TX.BURST (R120) run by itself: it pushes min(P_FIFO_DEPTH - |FIFO|, END + 1 - NEXT) bytes and
returns that count; a byte to push with the transmitter disabled faults with code 3. (END < P_LEN is I1 of R155. The
returned count stands in the model's field `ret`: the model's choice, log entry 7.) -/
def Obligations.BurstPushesWhatFits : Prop :=
  encode .txBurst = 0xE3 ∧
  ∀ s : State, configOK s.cfg = true → s.fcode = 0 → s.refused = false →
    s.endCur.toNat < s.cfg.len →
    (s.txen = true ∨ burstCount s = 0 → exec .txBurst s = .next { s with
      fifo := s.fifo ++ (s.cfg.payload.drop s.nextCur.toNat).take (burstCount s),
      nextCur := BitVec.ofNat 16 (s.nextCur.toNat + burstCount s),
      ret := .count (burstCount s) }) ∧
    (s.txen = false → 0 < burstCount s → exec .txBurst s = .next { s with fcode := 3 })

/-- R121: TX.START clears CFLAG, raises ACT, pushes the first burst and enables the interrupt, even
when the burst drained the buffer. (END < P_LEN is I1 of R155.) -/
def Obligations.TxStartPushesAndEnables : Prop :=
  encode .txStart = 0xE4 ∧
  ∀ s : State, configOK s.cfg = true → s.fcode = 0 → s.refused = false →
    s.endCur.toNat < s.cfg.len →
    (s.txen = true ∨ burstCount s = 0 → exec .txStart s = .next { s with
      cflag := false, act := true,
      fifo := s.fifo ++ (s.cfg.payload.drop s.nextCur.toNat).take (burstCount s),
      nextCur := BitVec.ofNat 16 (s.nextCur.toNat + burstCount s),
      txeie := true }) ∧
    (s.txen = false → 0 < burstCount s → exec .txStart s = .next { s with fcode := 3 })

/- ## The Transmit Buffer -/

/-- R100: BUF.RESET. -/
def Obligations.BufResetRewindsTheCursors : Prop :=
  encode .bufReset = 0xE0 ∧
  ∀ s : State, configOK s.cfg = true → s.fcode = 0 → s.refused = false →
    exec .bufReset s = .next { s with nextCur := 0, endCur := BitVec.ofNat 16 (s.cfg.len - 1) } ∧
    (BitVec.ofNat 16 (s.cfg.len - 1)).toNat = s.cfg.len - 1

/-- BUF.HASMORE (R101) run by itself: it returns NEXT <= END and changes no register. (The returned value
stands in the model's field `ret`: the model's choice, log entry 7.) -/
def Obligations.BufHasMoreComparesTheCursors : Prop :=
  encode .bufHasMore = 0xE1 ∧
  ∀ s : State, configOK s.cfg = true → s.fcode = 0 → s.refused = false →
    exec .bufHasMore s = .next { s with ret := .flag (s.nextCur.ule s.endCur) }

/-- BUF.TAKENEXT (R102) run by itself: it returns P_PAYLOAD[NEXT], in the model's field `ret` (the model's
choice, log entry 7), and advances NEXT, or faults with code 1 when nothing is left. A NEXT that is no
index of the payload stops (log entry 11). -/
def Obligations.BufTakeNextReturnsTheNextByte : Prop :=
  encode .bufTakeNext = 0xE2 ∧
  ∀ s : State, configOK s.cfg = true → s.fcode = 0 → s.refused = false →
    (∀ b, s.nextCur.toNat ≤ s.endCur.toNat → s.cfg.payload[s.nextCur.toNat]? = some b →
      exec .bufTakeNext s = .next { s with
        nextCur := BitVec.ofNat 16 (s.nextCur.toNat + 1), ret := .byte b }) ∧
    (s.endCur.toNat < s.nextCur.toNat → exec .bufTakeNext s = .next { s with fcode := 1 }) ∧
    (s.nextCur.toNat ≤ s.endCur.toNat → s.cfg.len ≤ s.nextCur.toNat →
      exec .bufTakeNext s = .fault .payloadRange)

/-- The drain law (the spec derives it in R103): after BUF.RESET the m-th call of BUF.TAKENEXT returns
P_PAYLOAD[m-1], for every m up to P_LEN; HASMORE is true until the P_LEN-th and false after it; and
only the step that resets the buffer makes it true again. -/
def Obligations.DrainLaw : Prop :=
  (∀ (s : State) (m : Nat), configOK s.cfg = true → m ≤ s.cfg.len →
    takeMany m (bufReset s) = some (s.cfg.payload.take m,
      { s with nextCur := BitVec.ofNat 16 m, endCur := BitVec.ofNat 16 (s.cfg.len - 1) }) ∧
    hasMore { s with nextCur := BitVec.ofNat 16 m, endCur := BitVec.ofNat 16 (s.cfg.len - 1) }
      = decide (m < s.cfg.len)) ∧
  ∀ (s t : State) (i : Instr), Trans s i t → hasMore s = false → hasMore t = true →
    i = .loopBeginSend

/- ## The collaborators -/

/-- The operations that take an operand or return a value, as their rules state them, apart from how
exec hands over operand and result: R101, R102, R120, R170, R175, R176, R178, R179, and the fault codes
of R200. (END < P_LEN is I1 of R155; a NEXT beyond the payload is a constructed state, log entry 11.) -/
def Obligations.PrimitivesWithOperandsFollowTheirRules : Prop :=
  (∀ s : State, uartRoom s = true ↔ s.fifo.length < s.cfg.fifoDepth) ∧
  (∀ s : State, hasMore s = true ↔ s.nextCur.toNat ≤ s.endCur.toNat) ∧
  (∀ s : State, configOK s.cfg = true → s.endCur.toNat < s.cfg.len →
    (s.endCur.toNat < s.nextCur.toNat → bufTakeNext s = .error (.code .bufUnderrun)) ∧
    (s.nextCur.toNat ≤ s.endCur.toNat → ∃ b, s.cfg.payload[s.nextCur.toNat]? = some b ∧
      bufTakeNext s = .ok (b, { s with nextCur := BitVec.ofNat 16 (s.nextCur.toNat + 1) })) ∧
    (s.txen = true ∨ burstCount s = 0 → txBurst s = .ok (burstCount s, { s with
      fifo := s.fifo ++ (s.cfg.payload.drop s.nextCur.toNat).take (burstCount s),
      nextCur := BitVec.ofNat 16 (s.nextCur.toNat + burstCount s) })) ∧
    (s.txen = false → 0 < burstCount s → txBurst s = .error (.code .pushWhileDisabled))) ∧
  (∀ (s : State) (n : Nat), configOK s.cfg = true → 1 ≤ n → n ≤ 2 ^ s.cfg.timerWidth - 1 →
    timerArm n s = { s with
      tcount := BitVec.ofNat 32 n, tarmed := true, tpend := false, tie := true } ∧
    (BitVec.ofNat 32 n).toNat = n) ∧
  (∀ (s : State) (b : Byte),
    (s.txen = false → uartPush b s = .error (.code .pushWhileDisabled)) ∧
    (s.txen = true → s.cfg.fifoDepth ≤ s.fifo.length →
      uartPush b s = .error (.code .fifoOverflow)) ∧
    (s.txen = true → s.fifo.length < s.cfg.fifoDepth →
      uartPush b s = .ok { s with fifo := s.fifo ++ [b] })) ∧
  (∀ (s : State) (v : Bool),
    gpioSetLine v s = { s with
      lineGpio := v,
      wire := s.wire ++
        (if s.txen = true then []
         else if s.lineGpio = true ∧ v = false then [.brk]
         else if s.lineGpio = false ∧ v = true then [.mab] else []) } ∧
    gpioSetAct v s = { s with act := v }) ∧
  faultNumber .bufUnderrun = 1 ∧ faultNumber .fifoOverflow = 2 ∧
  faultNumber .pushWhileDisabled = 3 ∧ faultNumber .spuriousTimerIrq = 4 ∧
  faultNumber .illegalFstate = 5

/-- R172: TIMER.TICK counts down and expires once, on the N-th tick of a timer armed with N. -/
def Obligations.TimerTickCountsAndExpires : Prop :=
  encode .timerTick = 0x60 ∧
  ∀ s : State, configOK s.cfg = true → s.fcode = 0 → s.refused = false → s.tarmed = true →
    (1 < s.tcount.toNat → exec .timerTick s = .next { s with
      tcount := BitVec.ofNat 32 (s.tcount.toNat - 1) }) ∧
    (s.tcount.toNat = 1 → exec .timerTick s = .next { s with
      tcount := 0, tarmed := false, tpend := true }) ∧
    (∀ m, m < s.tcount.toNat → Path s (List.replicate m .timerTick) { s with
      tcount := BitVec.ofNat 32 (s.tcount.toNat - m) }) ∧
    (0 < s.tcount.toNat → Path s (List.replicate s.tcount.toNat .timerTick) { s with
      tcount := 0, tarmed := false, tpend := true })

/-- R177: UART.SHIFT moves the oldest accepted byte onto the line. -/
def Obligations.UartShiftSendsTheOldestByte : Prop :=
  encode .uartShift = 0x80 ∧
  ∀ (s : State) (b : Byte) (rest : List Byte),
    configOK s.cfg = true → s.fcode = 0 → s.refused = false → s.txen = true → s.fifo = b :: rest →
    exec .uartShift s = .next { s with fifo := rest, wire := s.wire ++ [.byte b] }

/-- TIMER.ARM(N) (R170) run by itself, for N in 1 to 2^P_TIMER_WIDTH - 1, and for N = 0, after which
TIMER.TICK's guard never holds. For a larger N, outside the operand's range, TCOUNT is free within its width (log
entry 10) and the rest is the same. (The operand stands in the model's field `args`: the model's choice,
log entry 7.) -/
def Obligations.TimerArmLoadsAndEnables : Prop :=
  encode .timerArm = 0xE8 ∧
  ∀ s : State, configOK s.cfg = true → s.fcode = 0 → s.refused = false →
    ∃ v : BitVec 32, v.toNat < 2 ^ s.cfg.timerWidth ∧
      (s.args.ticks < 2 ^ s.cfg.timerWidth → v.toNat = s.args.ticks) ∧
      exec .timerArm s = .next { s with
        tcount := v, tarmed := true, tpend := false, tie := true } ∧
      (s.args.ticks = 0 → ¬Takes .timerTick { s with
        tcount := v, tarmed := true, tpend := false, tie := true })

/-- R171: TIMER.STOP. -/
def Obligations.TimerStopClearsTheTimer : Prop :=
  encode .timerStop = 0xE9 ∧
  ∀ s : State, configOK s.cfg = true → s.fcode = 0 → s.refused = false →
    exec .timerStop s = .next { s with tarmed := false, tcount := 0, tpend := false, tie := false }

/-- R173: UART.ENABLE. An edge is emitted only where the line was low. -/
def Obligations.UartEnableDrivesTheLineHigh : Prop :=
  encode .uartEnable = 0xE6 ∧
  ∀ s : State, configOK s.cfg = true → s.fcode = 0 → s.refused = false →
    exec .uartEnable s = .next { s with
      txen := true,
      wire := s.wire ++ (if s.txen = false ∧ s.lineGpio = false then [.mab] else []) }

/-- R174: UART.DISABLE discards what is still queued and records it. -/
def Obligations.UartDisableDiscardsTheFifo : Prop :=
  encode .uartDisable = 0xE7 ∧
  ∀ s : State, configOK s.cfg = true → s.fcode = 0 → s.refused = false →
    exec .uartDisable s = .next { s with
      txen := false, fifo := [], trunc := s.trunc || !s.fifo.isEmpty,
      wire := s.wire ++ (if s.fifo = [] then [] else [.trunc s.fifo.length])
        ++ (if s.txen = true ∧ s.lineGpio = false then [.brk] else []) }

/-- UART.PUSH(b) (R176) run by itself, the TXEN check before the room check (R202). (The operand stands in
the model's field `args`: the model's choice, log entry 7.) -/
def Obligations.UartPushAppendsOrFaults : Prop :=
  encode .uartPush = 0xE5 ∧
  ∀ s : State, configOK s.cfg = true → s.fcode = 0 → s.refused = false →
    (s.txen = true → s.fifo.length < s.cfg.fifoDepth →
      exec .uartPush s = .next { s with fifo := s.fifo ++ [s.args.byte] }) ∧
    (s.txen = false → exec .uartPush s = .next { s with fcode := 3 }) ∧
    (s.txen = true → s.cfg.fifoDepth ≤ s.fifo.length →
      exec .uartPush s = .next { s with fcode := 2 })

/-- GPIO.SET_LINE(v) (R178, R180) run by itself, with an edge only while the transmitter is disabled, and
GPIO.SET_ACT(v) (R179). (The operand stands in the model's field `args`: the model's choice, log
entry 7.) -/
def Obligations.GpioSetsLineAndActivity : Prop :=
  encode .gpioSetLine = 0xEA ∧ encode .gpioSetAct = 0xEB ∧
  ∀ s : State, configOK s.cfg = true → s.fcode = 0 → s.refused = false →
    exec .gpioSetLine s = .next { s with
      lineGpio := s.args.level,
      wire := s.wire ++
        (if s.txen = true then []
         else if s.lineGpio = true ∧ s.args.level = false then [.brk]
         else if s.lineGpio = false ∧ s.args.level = true then [.mab] else []) } ∧
    exec .gpioSetAct s = .next { s with act := s.args.level }

/-- R181: TXEIE.SET and TXEIE.CLEAR. -/
def Obligations.TxeieIsSetAndCleared : Prop :=
  encode .txeieSet = 0xEC ∧ encode .txeieClear = 0xED ∧
  ∀ s : State, configOK s.cfg = true → s.fcode = 0 → s.refused = false →
    exec .txeieSet s = .next { s with txeie := true } ∧
    exec .txeieClear s = .next { s with txeie := false }

/- ## Rules of the whole machine -/

/-- R45: no step writes the parameters; so every payload byte reads as before. Nor does any step
write GIE (R206). -/
def Obligations.ParametersAndGieAreNeverWritten : Prop :=
  ∀ (i : Instr) (s t : State), exec i s = .next t →
    t.cfg = s.cfg ∧ t.gie = s.gie ∧ ∀ a : Nat, memRead t.cfg a = memRead s.cfg a

/-- R38: TRUNC is 0 at launch, is set exactly where UART.DISABLE (by itself or in LOOP.BREAK) discards
queued bytes, and is never cleared. With it: WIRE only grows. -/
def Obligations.TruncIsStickyAndWireOnlyGrows : Prop :=
  (∀ c : Config, (State.launch c).trunc = false) ∧
  ∀ (i : Instr) (s t : State), exec i s = .next t →
    s.wire <+: t.wire ∧ (s.trunc = true → t.trunc = true) ∧
    (i = .loopBreak ∨ i = .uartDisable → s.fifo ≠ [] →
      t.trunc = true ∧ t.fifo = [] ∧ .trunc s.fifo.length ∈ t.wire) ∧
    (t.trunc ≠ s.trunc → (i = .loopBreak ∨ i = .uartDisable) ∧ s.fifo ≠ [])

/-- R151: each transition of FSTATE has its one driver, and goes to the successor in the cycle of
R22. -/
def Obligations.EachTransitionHasOneDriver : Prop :=
  ∀ (s t : State) (i : Instr), Trans s i t → t.fstate ≠ s.fstate →
    t.fstate = cycleNext s.fstate ∧ i.agent = driver s.fstate

/-- R41: which agent may change which register, and in which states. -/
def Obligations.EachRegisterHasOneWriter : Prop :=
  ∀ (s t : State) (i : Instr), Invariants s → Trans s i t → t.fcode = 0 →
    (t.fstate ≠ s.fstate →
      i.agent = .loop ∧ (s.fstate = .break_ ∨ s.fstate = .mark ∨ s.fstate = .beginSend ∨
        s.fstate = .sending ∨ s.fstate = .sleeping) ∨
      i.agent = .timerIsr ∧ (s.fstate = .inBreak ∨ s.fstate = .inMark)) ∧
    (s.cflag = false → t.cflag = true → i.agent = .txeIsr ∧ s.txeie = true) ∧
    (s.cflag = true → t.cflag = false →
      i.agent = .loop ∧ s.fstate = .beginSend ∧ s.txeie = false) ∧
    (t.nextCur ≠ s.nextCur ∨ t.endCur ≠ s.endCur →
      i.agent = .loop ∧ s.fstate = .beginSend ∨ i.agent = .txeIsr ∧ s.txeie = true) ∧
    (s.txeie = false → t.txeie = true → i.agent = .loop ∧ s.fstate = .beginSend) ∧
    (s.txeie = true → t.txeie = false → i.agent = .txeIsr) ∧
    (t.tie ≠ s.tie ∨ t.tarmed ≠ s.tarmed ∨ t.tcount ≠ s.tcount →
      i.agent = .loop ∧ (s.fstate = .break_ ∨ s.fstate = .mark ∨ s.fstate = .beginSend) ∨
      i.agent = .timer) ∧
    (s.tpend = false → t.tpend = true → i.agent = .timer) ∧
    (s.tpend = true → t.tpend = false → i.agent = .timerIsr ∨ i.agent = .loop) ∧
    (t.lineGpio ≠ s.lineGpio →
      i.agent = .loop ∧ s.fstate = .break_ ∨ i.agent = .timerIsr ∧ s.fstate = .inBreak) ∧
    (t.txen ≠ s.txen → i.agent = .loop ∧ (s.fstate = .break_ ∨ s.fstate = .beginSend)) ∧
    (t.fifo ≠ s.fifo →
      (i.agent = .loop ∨ i.agent = .txeIsr) ∧ s.fifo <+: t.fifo ∨
      i.agent = .uart ∧ t.fifo = s.fifo.tail ∨ i.agent = .loop ∧ t.fifo = []) ∧
    (t.act ≠ s.act → i.agent = .loop ∧ (s.fstate = .beginSend ∨ s.fstate = .sending)) ∧
    (t.sleepCnt ≠ s.sleepCnt → i.agent = .loop ∧ (s.fstate = .sending ∨ s.fstate = .sleeping))

/-- The invariants I1 to I15 of R155, and TCOUNT within its width, hold at every admissible launch.
State.reset is one of them, under the parameters of log entry 2 (the model's choice). -/
def Obligations.InvariantsHoldAtLaunch : Prop :=
  (∀ c : Config, configOK c = true → Invariants (State.launch c) ∧ TcountFits (State.launch c)) ∧
  State.reset = State.launch Config.atReset ∧ Invariants State.reset ∧
  configOK State.reset.cfg = true ∧ State.reset.fcode = 0 ∧ State.reset.refused = false

/-- Every step keeps the invariants I1 to I15 of R155, and raises no fault where they hold. -/
def Obligations.EveryStepKeepsTheInvariants : Prop :=
  ∀ s t : State, Invariants s → step s = .next t → Invariants t ∧ t.fcode = s.fcode

/-- Every step keeps TCOUNT within P_TIMER_WIDTH bits (10_state.md R35), from every state. -/
def Obligations.EveryStepKeepsTcountInItsWidth : Prop :=
  ∀ s t : State, TcountFits s → step s = .next t → TcountFits t

/-- No fault is reachable from a valid launch, over every schedule (the spec derives this in R155): in
every reachable state FCODE = 0, no label that steps raises, and the model does not stop. -/
def Obligations.NoFaultIsReachable : Prop :=
  ∀ (c : Config) (s : State), configOK c = true → Reachable c s →
    s.cfg = c ∧ s.fcode = 0 ∧ (∀ f, step s ≠ .fault f) ∧
    ∀ i : Instr, i.schedulable = true →
      (∀ f, exec i s ≠ .fault f) ∧ ∀ t, exec i s = .next t → t.fcode = 0

/-- The two interrupt requests never hold together in a reachable state (the spec derives this in R207
from I4 and I5), nor do the two enables (I6, the exclusion R244 asks for). -/
def Obligations.InterruptSourcesExclude : Prop :=
  ∀ (c : Config) (s : State), configOK c = true → Reachable c s →
    ¬(timerIrq s = true ∧ txeIrq s = true) ∧ ¬(s.tie = true ∧ s.txeie = true)

/-- The split law (derived in R123) and the fresh cursor of R154: at BEGIN_SEND of a reachable state
FIFO is empty, the step pushes the first K = min(P_LEN, P_FIFO_DEPTH) bytes whatever NEXT was, leaves
P_LEN - K for the handler, and emits no wire event. -/
def Obligations.SplitLaw : Prop :=
  ∀ (c : Config) (s t : State), configOK c = true → Reachable c s → s.fstate = .beginSend →
    exec .loopBeginSend s = .next t →
    s.fifo = [] ∧ t.fifo = c.payload.take (min c.len c.fifoDepth) ∧
    t.nextCur.toNat = min c.len c.fifoDepth ∧
    t.endCur.toNat + 1 - t.nextCur.toNat = c.len - min c.len c.fifoDepth ∧
    t.cflag = false ∧ t.wire = s.wire

/-- The completion law (derived in R124): a reachable state's CFLAG becomes 1 only by TXISR, only when
every payload byte has been accepted, and TXEIE is then 0. -/
def Obligations.CompletionLaw : Prop :=
  ∀ (c : Config) (s t : State) (i : Instr), configOK c = true → Reachable c s → Trans s i t →
    (s.cflag = false → t.cflag = true → i = .txisr) ∧
    (t.cflag = true → t.nextCur.toNat = c.len ∧ t.txeie = false ∧ hasMore t = false)

/-- No timeout (R127, R249). While UART.SHIFT is never taken and more bytes remain than FIFO has places, the
loop stays in SENDING; while TIMER.TICK is never taken, it stays in IN_BREAK or IN_MARK. -/
def Obligations.AStalledDeviceStallsTheLoop : Prop :=
  ∀ (s t : State) (is : List Instr), Invariants s → Path s is t →
    (s.fstate = .sending → s.cflag = false → .uartShift ∉ is →
      s.cfg.fifoDepth - s.fifo.length < s.endCur.toNat + 1 - s.nextCur.toNat →
      t.fstate = .sending ∧ t.cflag = false ∧ t.wire = s.wire) ∧
    (s.fstate = .inBreak ∨ s.fstate = .inMark → s.tarmed = true → .timerTick ∉ is → t = s)

/-- The wire law (derived in R153): what stands on WIRE in a reachable state is a beginning of a
sequence of frames, each of the payload's first k bytes with its TRUNC exactly when k < P_LEN. -/
def Obligations.WireIsASequenceOfFrames : Prop :=
  ∀ (c : Config) (s : State), configOK c = true → Reachable c s →
    ∃ ks : List Nat, (∀ k ∈ ks, k ≤ c.len) ∧ s.wire <+: wireFrames c ks

/-- The break's lower bound (derived in R251): after the step that emits BRK, no MAB is emitted before
P_BREAK_TICKS ticks of the timer. -/
def Obligations.BreakLastsItsTicks : Prop :=
  ∀ (c : Config) (s t u : State) (is : List Instr), configOK c = true → Reachable c s →
    exec .loopBreak s = .next t → Path t is u →
    .brk ∈ t.wire.drop s.wire.length ∧
    (.mab ∈ u.wire.drop t.wire.length → c.breakTicks ≤ is.count .timerTick)

/-- The mark's lower bound (derived in R251): after the step that emits MAB, no byte begins on the line
before P_MARK_TICKS ticks of the timer. -/
def Obligations.MarkLastsItsTicks : Prop :=
  ∀ (c : Config) (s t u : State) (is : List Instr), configOK c = true → Reachable c s →
    exec .tisrInBreak s = .next t → Path t is u →
    .mab ∈ t.wire.drop s.wire.length ∧
    ((∃ b, .byte b ∈ u.wire.drop t.wire.length) → c.markTicks ≤ is.count .timerTick)

/-- Liveness (derived in R257): every weakly fair infinite run from a valid launch passes through every
state of the cycle infinitely often, and its wire gets a BRK event again and again. -/
def Obligations.FairRunsCycleForever : Prop :=
  ∀ (c : Config) (r : Run c), configOK c = true → r.WeaklyFair →
    (∀ f : FState, f ≠ .reserved → ∀ n, ∃ m, n ≤ m ∧ (r.at_ m).fstate = f) ∧
    ∀ k : Nat, ∃ m, k ≤ ((r.at_ m).wire).count .brk
end

