-- ==== Sys2Proof/Laws/Flags.lean ====
section
/-! SUPPORT. The bits of the STATUS word and of a wire-event word. -/

namespace Sys2Proof.Machine

theorem bitAt_getLsbD (n : Nat) (b : Bool) (m : Nat) :
    (bitAt n b).getLsbD m = (decide (m < 16) && decide (m = n) && b) := by
  by_cases h : m = n
  · subst h
    simp [bitAt]
  · by_cases h16 : m < 16 <;> simp [bitAt, h, h16]
    intro h1 h2
    omega

/-- Every bit of the STATUS word. -/
theorem statusWord_getLsbD (s : State) (n : Nat) (hn : n < 16) :
    (statusWord s).getLsbD n =
      ((fstateCode s.fstate).getLsbD n || (decide (n = 3) && s.cflag)
        || (decide (n = 4) && s.txen) || (decide (n = 5) && line s) || (decide (n = 6) && s.act)
        || (decide (n = 7) && s.tie) || (decide (n = 8) && s.txeie) || (decide (n = 9) && s.tarmed)
        || (decide (n = 10) && s.tpend) || (decide (n = 11) && s.gie) || (decide (n = 12) && s.trunc)
        || (decide (13 ≤ n) && s.fcode.getLsbD (n - 13))) := by
  simp only [statusWord, BitVec.getLsbD_or, bitAt_getLsbD, BitVec.getLsbD_setWidth,
    BitVec.getLsbD_shiftLeft, hn, decide_true, Bool.true_and]
  by_cases h : 13 ≤ n
  · simp [h, Nat.not_lt.2 h, show n - 13 < 16 by omega]
  · simp [h, Nat.not_le.1 h]

theorem kindData_toNat (k d : BitVec 8) : (kindData k d).toNat = k.toNat * 256 + d.toNat := by
  rw [kindData, BitVec.toNat_cast, BitVec.toNat_append, Nat.shiftLeft_eq, Nat.mul_comm,
    ← Nat.two_pow_add_eq_or_of_lt d.isLt, Nat.mul_comm]

@[simp] theorem kindData_kind (k d : BitVec 8) : (kindData k d).extractLsb' 8 8 = k := by
  apply BitVec.eq_of_toNat_eq
  rw [BitVec.extractLsb'_toNat, kindData_toNat, Nat.shiftRight_eq_div_pow]
  have := k.isLt
  have := d.isLt
  omega

@[simp] theorem kindData_data (k d : BitVec 8) : (kindData k d).extractLsb' 0 8 = d := by
  apply BitVec.eq_of_toNat_eq
  rw [BitVec.extractLsb'_toNat, kindData_toNat, Nat.shiftRight_eq_div_pow]
  have := k.isLt
  have := d.isLt
  omega

/-- A 16-bit word is its KIND and its DATA. -/
theorem kindData_extract (w : BitVec 16) :
    kindData (w.extractLsb' 8 8) (w.extractLsb' 0 8) = w := by
  apply BitVec.eq_of_toNat_eq
  rw [kindData_toNat]
  simp only [BitVec.extractLsb'_toNat, Nat.shiftRight_eq_div_pow]
  have := w.isLt
  omega

end Sys2Proof.Machine
end

