-- ==== Sys2Proof/Laws/State.lean ====
section
/-! SUPPORT. What every update of the state leaves in every field: one lemma per field per update. -/

namespace Sys2Proof.Machine

section raiseFaultFields
variable (c : FaultCode) (s : State)

@[simp] theorem raiseFault_cfg : (raiseFault c s).cfg = s.cfg := rfl
@[simp] theorem raiseFault_fstate : (raiseFault c s).fstate = s.fstate := rfl
@[simp] theorem raiseFault_cflag : (raiseFault c s).cflag = s.cflag := rfl
@[simp] theorem raiseFault_nextCur : (raiseFault c s).nextCur = s.nextCur := rfl
@[simp] theorem raiseFault_endCur : (raiseFault c s).endCur = s.endCur := rfl
@[simp] theorem raiseFault_sleepCnt : (raiseFault c s).sleepCnt = s.sleepCnt := rfl
@[simp] theorem raiseFault_act : (raiseFault c s).act = s.act := rfl
@[simp] theorem raiseFault_lineGpio : (raiseFault c s).lineGpio = s.lineGpio := rfl
@[simp] theorem raiseFault_txen : (raiseFault c s).txen = s.txen := rfl
@[simp] theorem raiseFault_txeie : (raiseFault c s).txeie = s.txeie := rfl
@[simp] theorem raiseFault_fifo : (raiseFault c s).fifo = s.fifo := rfl
@[simp] theorem raiseFault_tie : (raiseFault c s).tie = s.tie := rfl
@[simp] theorem raiseFault_tarmed : (raiseFault c s).tarmed = s.tarmed := rfl
@[simp] theorem raiseFault_tcount : (raiseFault c s).tcount = s.tcount := rfl
@[simp] theorem raiseFault_tpend : (raiseFault c s).tpend = s.tpend := rfl
@[simp] theorem raiseFault_gie : (raiseFault c s).gie = s.gie := rfl
@[simp] theorem raiseFault_trunc : (raiseFault c s).trunc = s.trunc := rfl
@[simp] theorem raiseFault_wire : (raiseFault c s).wire = s.wire := rfl
@[simp] theorem raiseFault_fcode : (raiseFault c s).fcode = faultNumber c := rfl
@[simp] theorem raiseFault_refused : (raiseFault c s).refused = s.refused := rfl
@[simp] theorem raiseFault_schedule : (raiseFault c s).schedule = s.schedule := rfl
@[simp] theorem raiseFault_args : (raiseFault c s).args = s.args := rfl
@[simp] theorem raiseFault_ret : (raiseFault c s).ret = s.ret := rfl

end raiseFaultFields

section refuseLabelFields
variable (s : State)

@[simp] theorem refuseLabel_cfg : (refuseLabel s).cfg = s.cfg := rfl
@[simp] theorem refuseLabel_fstate : (refuseLabel s).fstate = s.fstate := rfl
@[simp] theorem refuseLabel_cflag : (refuseLabel s).cflag = s.cflag := rfl
@[simp] theorem refuseLabel_nextCur : (refuseLabel s).nextCur = s.nextCur := rfl
@[simp] theorem refuseLabel_endCur : (refuseLabel s).endCur = s.endCur := rfl
@[simp] theorem refuseLabel_sleepCnt : (refuseLabel s).sleepCnt = s.sleepCnt := rfl
@[simp] theorem refuseLabel_act : (refuseLabel s).act = s.act := rfl
@[simp] theorem refuseLabel_lineGpio : (refuseLabel s).lineGpio = s.lineGpio := rfl
@[simp] theorem refuseLabel_txen : (refuseLabel s).txen = s.txen := rfl
@[simp] theorem refuseLabel_txeie : (refuseLabel s).txeie = s.txeie := rfl
@[simp] theorem refuseLabel_fifo : (refuseLabel s).fifo = s.fifo := rfl
@[simp] theorem refuseLabel_tie : (refuseLabel s).tie = s.tie := rfl
@[simp] theorem refuseLabel_tarmed : (refuseLabel s).tarmed = s.tarmed := rfl
@[simp] theorem refuseLabel_tcount : (refuseLabel s).tcount = s.tcount := rfl
@[simp] theorem refuseLabel_tpend : (refuseLabel s).tpend = s.tpend := rfl
@[simp] theorem refuseLabel_gie : (refuseLabel s).gie = s.gie := rfl
@[simp] theorem refuseLabel_trunc : (refuseLabel s).trunc = s.trunc := rfl
@[simp] theorem refuseLabel_wire : (refuseLabel s).wire = s.wire := rfl
@[simp] theorem refuseLabel_fcode : (refuseLabel s).fcode = s.fcode := rfl
@[simp] theorem refuseLabel_refused : (refuseLabel s).refused = true := rfl
@[simp] theorem refuseLabel_schedule : (refuseLabel s).schedule = s.schedule := rfl
@[simp] theorem refuseLabel_args : (refuseLabel s).args = s.args := rfl
@[simp] theorem refuseLabel_ret : (refuseLabel s).ret = s.ret := rfl

end refuseLabelFields

section emitFields
variable (e : WireEvent) (s : State)

@[simp] theorem emit_cfg : (emit e s).cfg = s.cfg := rfl
@[simp] theorem emit_fstate : (emit e s).fstate = s.fstate := rfl
@[simp] theorem emit_cflag : (emit e s).cflag = s.cflag := rfl
@[simp] theorem emit_nextCur : (emit e s).nextCur = s.nextCur := rfl
@[simp] theorem emit_endCur : (emit e s).endCur = s.endCur := rfl
@[simp] theorem emit_sleepCnt : (emit e s).sleepCnt = s.sleepCnt := rfl
@[simp] theorem emit_act : (emit e s).act = s.act := rfl
@[simp] theorem emit_lineGpio : (emit e s).lineGpio = s.lineGpio := rfl
@[simp] theorem emit_txen : (emit e s).txen = s.txen := rfl
@[simp] theorem emit_txeie : (emit e s).txeie = s.txeie := rfl
@[simp] theorem emit_fifo : (emit e s).fifo = s.fifo := rfl
@[simp] theorem emit_tie : (emit e s).tie = s.tie := rfl
@[simp] theorem emit_tarmed : (emit e s).tarmed = s.tarmed := rfl
@[simp] theorem emit_tcount : (emit e s).tcount = s.tcount := rfl
@[simp] theorem emit_tpend : (emit e s).tpend = s.tpend := rfl
@[simp] theorem emit_gie : (emit e s).gie = s.gie := rfl
@[simp] theorem emit_trunc : (emit e s).trunc = s.trunc := rfl
@[simp] theorem emit_wire : (emit e s).wire = s.wire ++ [e] := rfl
@[simp] theorem emit_fcode : (emit e s).fcode = s.fcode := rfl
@[simp] theorem emit_refused : (emit e s).refused = s.refused := rfl
@[simp] theorem emit_schedule : (emit e s).schedule = s.schedule := rfl
@[simp] theorem emit_args : (emit e s).args = s.args := rfl
@[simp] theorem emit_ret : (emit e s).ret = s.ret := rfl

end emitFields

section lineEdgeFields
variable (old : Bool) (s : State)

@[simp] theorem lineEdge_cfg : (lineEdge old s).cfg = s.cfg := rfl
@[simp] theorem lineEdge_fstate : (lineEdge old s).fstate = s.fstate := rfl
@[simp] theorem lineEdge_cflag : (lineEdge old s).cflag = s.cflag := rfl
@[simp] theorem lineEdge_nextCur : (lineEdge old s).nextCur = s.nextCur := rfl
@[simp] theorem lineEdge_endCur : (lineEdge old s).endCur = s.endCur := rfl
@[simp] theorem lineEdge_sleepCnt : (lineEdge old s).sleepCnt = s.sleepCnt := rfl
@[simp] theorem lineEdge_act : (lineEdge old s).act = s.act := rfl
@[simp] theorem lineEdge_lineGpio : (lineEdge old s).lineGpio = s.lineGpio := rfl
@[simp] theorem lineEdge_txen : (lineEdge old s).txen = s.txen := rfl
@[simp] theorem lineEdge_txeie : (lineEdge old s).txeie = s.txeie := rfl
@[simp] theorem lineEdge_fifo : (lineEdge old s).fifo = s.fifo := rfl
@[simp] theorem lineEdge_tie : (lineEdge old s).tie = s.tie := rfl
@[simp] theorem lineEdge_tarmed : (lineEdge old s).tarmed = s.tarmed := rfl
@[simp] theorem lineEdge_tcount : (lineEdge old s).tcount = s.tcount := rfl
@[simp] theorem lineEdge_tpend : (lineEdge old s).tpend = s.tpend := rfl
@[simp] theorem lineEdge_gie : (lineEdge old s).gie = s.gie := rfl
@[simp] theorem lineEdge_trunc : (lineEdge old s).trunc = s.trunc := rfl
@[simp] theorem lineEdge_wire : (lineEdge old s).wire = s.wire ++ edgeEvents old (line s) := rfl
@[simp] theorem lineEdge_fcode : (lineEdge old s).fcode = s.fcode := rfl
@[simp] theorem lineEdge_refused : (lineEdge old s).refused = s.refused := rfl
@[simp] theorem lineEdge_schedule : (lineEdge old s).schedule = s.schedule := rfl
@[simp] theorem lineEdge_args : (lineEdge old s).args = s.args := rfl
@[simp] theorem lineEdge_ret : (lineEdge old s).ret = s.ret := rfl

end lineEdgeFields

section timerArmFields
variable (n : Nat) (s : State)

@[simp] theorem timerArm_cfg : (timerArm n s).cfg = s.cfg := rfl
@[simp] theorem timerArm_fstate : (timerArm n s).fstate = s.fstate := rfl
@[simp] theorem timerArm_cflag : (timerArm n s).cflag = s.cflag := rfl
@[simp] theorem timerArm_nextCur : (timerArm n s).nextCur = s.nextCur := rfl
@[simp] theorem timerArm_endCur : (timerArm n s).endCur = s.endCur := rfl
@[simp] theorem timerArm_sleepCnt : (timerArm n s).sleepCnt = s.sleepCnt := rfl
@[simp] theorem timerArm_act : (timerArm n s).act = s.act := rfl
@[simp] theorem timerArm_lineGpio : (timerArm n s).lineGpio = s.lineGpio := rfl
@[simp] theorem timerArm_txen : (timerArm n s).txen = s.txen := rfl
@[simp] theorem timerArm_txeie : (timerArm n s).txeie = s.txeie := rfl
@[simp] theorem timerArm_fifo : (timerArm n s).fifo = s.fifo := rfl
@[simp] theorem timerArm_tie : (timerArm n s).tie = true := rfl
@[simp] theorem timerArm_tarmed : (timerArm n s).tarmed = true := rfl
@[simp] theorem timerArm_tcount : (timerArm n s).tcount = timerLoad s.cfg n := rfl
@[simp] theorem timerArm_tpend : (timerArm n s).tpend = false := rfl
@[simp] theorem timerArm_gie : (timerArm n s).gie = s.gie := rfl
@[simp] theorem timerArm_trunc : (timerArm n s).trunc = s.trunc := rfl
@[simp] theorem timerArm_wire : (timerArm n s).wire = s.wire := rfl
@[simp] theorem timerArm_fcode : (timerArm n s).fcode = s.fcode := rfl
@[simp] theorem timerArm_refused : (timerArm n s).refused = s.refused := rfl
@[simp] theorem timerArm_schedule : (timerArm n s).schedule = s.schedule := rfl
@[simp] theorem timerArm_args : (timerArm n s).args = s.args := rfl
@[simp] theorem timerArm_ret : (timerArm n s).ret = s.ret := rfl

end timerArmFields

section timerStopFields
variable (s : State)

@[simp] theorem timerStop_cfg : (timerStop s).cfg = s.cfg := rfl
@[simp] theorem timerStop_fstate : (timerStop s).fstate = s.fstate := rfl
@[simp] theorem timerStop_cflag : (timerStop s).cflag = s.cflag := rfl
@[simp] theorem timerStop_nextCur : (timerStop s).nextCur = s.nextCur := rfl
@[simp] theorem timerStop_endCur : (timerStop s).endCur = s.endCur := rfl
@[simp] theorem timerStop_sleepCnt : (timerStop s).sleepCnt = s.sleepCnt := rfl
@[simp] theorem timerStop_act : (timerStop s).act = s.act := rfl
@[simp] theorem timerStop_lineGpio : (timerStop s).lineGpio = s.lineGpio := rfl
@[simp] theorem timerStop_txen : (timerStop s).txen = s.txen := rfl
@[simp] theorem timerStop_txeie : (timerStop s).txeie = s.txeie := rfl
@[simp] theorem timerStop_fifo : (timerStop s).fifo = s.fifo := rfl
@[simp] theorem timerStop_tie : (timerStop s).tie = false := rfl
@[simp] theorem timerStop_tarmed : (timerStop s).tarmed = false := rfl
@[simp] theorem timerStop_tcount : (timerStop s).tcount = 0 := rfl
@[simp] theorem timerStop_tpend : (timerStop s).tpend = false := rfl
@[simp] theorem timerStop_gie : (timerStop s).gie = s.gie := rfl
@[simp] theorem timerStop_trunc : (timerStop s).trunc = s.trunc := rfl
@[simp] theorem timerStop_wire : (timerStop s).wire = s.wire := rfl
@[simp] theorem timerStop_fcode : (timerStop s).fcode = s.fcode := rfl
@[simp] theorem timerStop_refused : (timerStop s).refused = s.refused := rfl
@[simp] theorem timerStop_schedule : (timerStop s).schedule = s.schedule := rfl
@[simp] theorem timerStop_args : (timerStop s).args = s.args := rfl
@[simp] theorem timerStop_ret : (timerStop s).ret = s.ret := rfl

end timerStopFields

section uartEnableFields
variable (s : State)

@[simp] theorem uartEnable_cfg : (uartEnable s).cfg = s.cfg := rfl
@[simp] theorem uartEnable_fstate : (uartEnable s).fstate = s.fstate := rfl
@[simp] theorem uartEnable_cflag : (uartEnable s).cflag = s.cflag := rfl
@[simp] theorem uartEnable_nextCur : (uartEnable s).nextCur = s.nextCur := rfl
@[simp] theorem uartEnable_endCur : (uartEnable s).endCur = s.endCur := rfl
@[simp] theorem uartEnable_sleepCnt : (uartEnable s).sleepCnt = s.sleepCnt := rfl
@[simp] theorem uartEnable_act : (uartEnable s).act = s.act := rfl
@[simp] theorem uartEnable_lineGpio : (uartEnable s).lineGpio = s.lineGpio := rfl
@[simp] theorem uartEnable_txen : (uartEnable s).txen = true := rfl
@[simp] theorem uartEnable_txeie : (uartEnable s).txeie = s.txeie := rfl
@[simp] theorem uartEnable_fifo : (uartEnable s).fifo = s.fifo := rfl
@[simp] theorem uartEnable_tie : (uartEnable s).tie = s.tie := rfl
@[simp] theorem uartEnable_tarmed : (uartEnable s).tarmed = s.tarmed := rfl
@[simp] theorem uartEnable_tcount : (uartEnable s).tcount = s.tcount := rfl
@[simp] theorem uartEnable_tpend : (uartEnable s).tpend = s.tpend := rfl
@[simp] theorem uartEnable_gie : (uartEnable s).gie = s.gie := rfl
@[simp] theorem uartEnable_trunc : (uartEnable s).trunc = s.trunc := rfl
@[simp] theorem uartEnable_wire : (uartEnable s).wire = s.wire ++ edgeEvents (line s) true := rfl
@[simp] theorem uartEnable_fcode : (uartEnable s).fcode = s.fcode := rfl
@[simp] theorem uartEnable_refused : (uartEnable s).refused = s.refused := rfl
@[simp] theorem uartEnable_schedule : (uartEnable s).schedule = s.schedule := rfl
@[simp] theorem uartEnable_args : (uartEnable s).args = s.args := rfl
@[simp] theorem uartEnable_ret : (uartEnable s).ret = s.ret := rfl

end uartEnableFields

section gpioSetActFields
variable (v : Bool) (s : State)

@[simp] theorem gpioSetAct_cfg : (gpioSetAct v s).cfg = s.cfg := rfl
@[simp] theorem gpioSetAct_fstate : (gpioSetAct v s).fstate = s.fstate := rfl
@[simp] theorem gpioSetAct_cflag : (gpioSetAct v s).cflag = s.cflag := rfl
@[simp] theorem gpioSetAct_nextCur : (gpioSetAct v s).nextCur = s.nextCur := rfl
@[simp] theorem gpioSetAct_endCur : (gpioSetAct v s).endCur = s.endCur := rfl
@[simp] theorem gpioSetAct_sleepCnt : (gpioSetAct v s).sleepCnt = s.sleepCnt := rfl
@[simp] theorem gpioSetAct_act : (gpioSetAct v s).act = v := rfl
@[simp] theorem gpioSetAct_lineGpio : (gpioSetAct v s).lineGpio = s.lineGpio := rfl
@[simp] theorem gpioSetAct_txen : (gpioSetAct v s).txen = s.txen := rfl
@[simp] theorem gpioSetAct_txeie : (gpioSetAct v s).txeie = s.txeie := rfl
@[simp] theorem gpioSetAct_fifo : (gpioSetAct v s).fifo = s.fifo := rfl
@[simp] theorem gpioSetAct_tie : (gpioSetAct v s).tie = s.tie := rfl
@[simp] theorem gpioSetAct_tarmed : (gpioSetAct v s).tarmed = s.tarmed := rfl
@[simp] theorem gpioSetAct_tcount : (gpioSetAct v s).tcount = s.tcount := rfl
@[simp] theorem gpioSetAct_tpend : (gpioSetAct v s).tpend = s.tpend := rfl
@[simp] theorem gpioSetAct_gie : (gpioSetAct v s).gie = s.gie := rfl
@[simp] theorem gpioSetAct_trunc : (gpioSetAct v s).trunc = s.trunc := rfl
@[simp] theorem gpioSetAct_wire : (gpioSetAct v s).wire = s.wire := rfl
@[simp] theorem gpioSetAct_fcode : (gpioSetAct v s).fcode = s.fcode := rfl
@[simp] theorem gpioSetAct_refused : (gpioSetAct v s).refused = s.refused := rfl
@[simp] theorem gpioSetAct_schedule : (gpioSetAct v s).schedule = s.schedule := rfl
@[simp] theorem gpioSetAct_args : (gpioSetAct v s).args = s.args := rfl
@[simp] theorem gpioSetAct_ret : (gpioSetAct v s).ret = s.ret := rfl

end gpioSetActFields

section gpioSetLineFields
variable (v : Bool) (s : State)

@[simp] theorem gpioSetLine_cfg : (gpioSetLine v s).cfg = s.cfg := rfl
@[simp] theorem gpioSetLine_fstate : (gpioSetLine v s).fstate = s.fstate := rfl
@[simp] theorem gpioSetLine_cflag : (gpioSetLine v s).cflag = s.cflag := rfl
@[simp] theorem gpioSetLine_nextCur : (gpioSetLine v s).nextCur = s.nextCur := rfl
@[simp] theorem gpioSetLine_endCur : (gpioSetLine v s).endCur = s.endCur := rfl
@[simp] theorem gpioSetLine_sleepCnt : (gpioSetLine v s).sleepCnt = s.sleepCnt := rfl
@[simp] theorem gpioSetLine_act : (gpioSetLine v s).act = s.act := rfl
@[simp] theorem gpioSetLine_lineGpio : (gpioSetLine v s).lineGpio = v := rfl
@[simp] theorem gpioSetLine_txen : (gpioSetLine v s).txen = s.txen := rfl
@[simp] theorem gpioSetLine_txeie : (gpioSetLine v s).txeie = s.txeie := rfl
@[simp] theorem gpioSetLine_fifo : (gpioSetLine v s).fifo = s.fifo := rfl
@[simp] theorem gpioSetLine_tie : (gpioSetLine v s).tie = s.tie := rfl
@[simp] theorem gpioSetLine_tarmed : (gpioSetLine v s).tarmed = s.tarmed := rfl
@[simp] theorem gpioSetLine_tcount : (gpioSetLine v s).tcount = s.tcount := rfl
@[simp] theorem gpioSetLine_tpend : (gpioSetLine v s).tpend = s.tpend := rfl
@[simp] theorem gpioSetLine_gie : (gpioSetLine v s).gie = s.gie := rfl
@[simp] theorem gpioSetLine_trunc : (gpioSetLine v s).trunc = s.trunc := rfl
@[simp] theorem gpioSetLine_wire : (gpioSetLine v s).wire = s.wire ++ edgeEvents (line s) (if s.txen then true else v) := rfl
@[simp] theorem gpioSetLine_fcode : (gpioSetLine v s).fcode = s.fcode := rfl
@[simp] theorem gpioSetLine_refused : (gpioSetLine v s).refused = s.refused := rfl
@[simp] theorem gpioSetLine_schedule : (gpioSetLine v s).schedule = s.schedule := rfl
@[simp] theorem gpioSetLine_args : (gpioSetLine v s).args = s.args := rfl
@[simp] theorem gpioSetLine_ret : (gpioSetLine v s).ret = s.ret := rfl

end gpioSetLineFields

section writeTxeieFields
variable (v : Bool) (s : State)

@[simp] theorem writeTxeie_cfg : (writeTxeie v s).cfg = s.cfg := rfl
@[simp] theorem writeTxeie_fstate : (writeTxeie v s).fstate = s.fstate := rfl
@[simp] theorem writeTxeie_cflag : (writeTxeie v s).cflag = s.cflag := rfl
@[simp] theorem writeTxeie_nextCur : (writeTxeie v s).nextCur = s.nextCur := rfl
@[simp] theorem writeTxeie_endCur : (writeTxeie v s).endCur = s.endCur := rfl
@[simp] theorem writeTxeie_sleepCnt : (writeTxeie v s).sleepCnt = s.sleepCnt := rfl
@[simp] theorem writeTxeie_act : (writeTxeie v s).act = s.act := rfl
@[simp] theorem writeTxeie_lineGpio : (writeTxeie v s).lineGpio = s.lineGpio := rfl
@[simp] theorem writeTxeie_txen : (writeTxeie v s).txen = s.txen := rfl
@[simp] theorem writeTxeie_txeie : (writeTxeie v s).txeie = v := rfl
@[simp] theorem writeTxeie_fifo : (writeTxeie v s).fifo = s.fifo := rfl
@[simp] theorem writeTxeie_tie : (writeTxeie v s).tie = s.tie := rfl
@[simp] theorem writeTxeie_tarmed : (writeTxeie v s).tarmed = s.tarmed := rfl
@[simp] theorem writeTxeie_tcount : (writeTxeie v s).tcount = s.tcount := rfl
@[simp] theorem writeTxeie_tpend : (writeTxeie v s).tpend = s.tpend := rfl
@[simp] theorem writeTxeie_gie : (writeTxeie v s).gie = s.gie := rfl
@[simp] theorem writeTxeie_trunc : (writeTxeie v s).trunc = s.trunc := rfl
@[simp] theorem writeTxeie_wire : (writeTxeie v s).wire = s.wire := rfl
@[simp] theorem writeTxeie_fcode : (writeTxeie v s).fcode = s.fcode := rfl
@[simp] theorem writeTxeie_refused : (writeTxeie v s).refused = s.refused := rfl
@[simp] theorem writeTxeie_schedule : (writeTxeie v s).schedule = s.schedule := rfl
@[simp] theorem writeTxeie_args : (writeTxeie v s).args = s.args := rfl
@[simp] theorem writeTxeie_ret : (writeTxeie v s).ret = s.ret := rfl

end writeTxeieFields

section bufResetFields
variable (s : State)

@[simp] theorem bufReset_cfg : (bufReset s).cfg = s.cfg := rfl
@[simp] theorem bufReset_fstate : (bufReset s).fstate = s.fstate := rfl
@[simp] theorem bufReset_cflag : (bufReset s).cflag = s.cflag := rfl
@[simp] theorem bufReset_nextCur : (bufReset s).nextCur = 0 := rfl
@[simp] theorem bufReset_endCur : (bufReset s).endCur = lastIndex s.cfg := rfl
@[simp] theorem bufReset_sleepCnt : (bufReset s).sleepCnt = s.sleepCnt := rfl
@[simp] theorem bufReset_act : (bufReset s).act = s.act := rfl
@[simp] theorem bufReset_lineGpio : (bufReset s).lineGpio = s.lineGpio := rfl
@[simp] theorem bufReset_txen : (bufReset s).txen = s.txen := rfl
@[simp] theorem bufReset_txeie : (bufReset s).txeie = s.txeie := rfl
@[simp] theorem bufReset_fifo : (bufReset s).fifo = s.fifo := rfl
@[simp] theorem bufReset_tie : (bufReset s).tie = s.tie := rfl
@[simp] theorem bufReset_tarmed : (bufReset s).tarmed = s.tarmed := rfl
@[simp] theorem bufReset_tcount : (bufReset s).tcount = s.tcount := rfl
@[simp] theorem bufReset_tpend : (bufReset s).tpend = s.tpend := rfl
@[simp] theorem bufReset_gie : (bufReset s).gie = s.gie := rfl
@[simp] theorem bufReset_trunc : (bufReset s).trunc = s.trunc := rfl
@[simp] theorem bufReset_wire : (bufReset s).wire = s.wire := rfl
@[simp] theorem bufReset_fcode : (bufReset s).fcode = s.fcode := rfl
@[simp] theorem bufReset_refused : (bufReset s).refused = s.refused := rfl
@[simp] theorem bufReset_schedule : (bufReset s).schedule = s.schedule := rfl
@[simp] theorem bufReset_args : (bufReset s).args = s.args := rfl
@[simp] theorem bufReset_ret : (bufReset s).ret = s.ret := rfl

end bufResetFields

section timerTickFields
variable (s : State)

theorem timerTick_eq : timerTick s = { s with
    tcount := s.tcount - 1,
    tarmed := s.tarmed && !decide (s.tcount - 1 = 0),
    tpend := s.tpend || decide (s.tcount - 1 = 0) } := by
  unfold timerTick
  dsimp only
  split <;> rename_i h <;>
    simp only [h, decide_true, decide_false, Bool.not_true, Bool.not_false, Bool.and_true,
      Bool.and_false, Bool.or_true, Bool.or_false]

@[simp] theorem timerTick_cfg : (timerTick s).cfg = s.cfg := by rw [timerTick_eq]
@[simp] theorem timerTick_fstate : (timerTick s).fstate = s.fstate := by rw [timerTick_eq]
@[simp] theorem timerTick_cflag : (timerTick s).cflag = s.cflag := by rw [timerTick_eq]
@[simp] theorem timerTick_nextCur : (timerTick s).nextCur = s.nextCur := by rw [timerTick_eq]
@[simp] theorem timerTick_endCur : (timerTick s).endCur = s.endCur := by rw [timerTick_eq]
@[simp] theorem timerTick_sleepCnt : (timerTick s).sleepCnt = s.sleepCnt := by rw [timerTick_eq]
@[simp] theorem timerTick_act : (timerTick s).act = s.act := by rw [timerTick_eq]
@[simp] theorem timerTick_lineGpio : (timerTick s).lineGpio = s.lineGpio := by rw [timerTick_eq]
@[simp] theorem timerTick_txen : (timerTick s).txen = s.txen := by rw [timerTick_eq]
@[simp] theorem timerTick_txeie : (timerTick s).txeie = s.txeie := by rw [timerTick_eq]
@[simp] theorem timerTick_fifo : (timerTick s).fifo = s.fifo := by rw [timerTick_eq]
@[simp] theorem timerTick_tie : (timerTick s).tie = s.tie := by rw [timerTick_eq]
@[simp] theorem timerTick_tarmed : (timerTick s).tarmed = (s.tarmed && !decide (s.tcount - 1 = 0)) := by rw [timerTick_eq]
@[simp] theorem timerTick_tcount : (timerTick s).tcount = (s.tcount - 1) := by rw [timerTick_eq]
@[simp] theorem timerTick_tpend : (timerTick s).tpend = (s.tpend || decide (s.tcount - 1 = 0)) := by rw [timerTick_eq]
@[simp] theorem timerTick_gie : (timerTick s).gie = s.gie := by rw [timerTick_eq]
@[simp] theorem timerTick_trunc : (timerTick s).trunc = s.trunc := by rw [timerTick_eq]
@[simp] theorem timerTick_wire : (timerTick s).wire = s.wire := by rw [timerTick_eq]
@[simp] theorem timerTick_fcode : (timerTick s).fcode = s.fcode := by rw [timerTick_eq]
@[simp] theorem timerTick_refused : (timerTick s).refused = s.refused := by rw [timerTick_eq]
@[simp] theorem timerTick_schedule : (timerTick s).schedule = s.schedule := by rw [timerTick_eq]
@[simp] theorem timerTick_args : (timerTick s).args = s.args := by rw [timerTick_eq]
@[simp] theorem timerTick_ret : (timerTick s).ret = s.ret := by rw [timerTick_eq]

end timerTickFields

section discardFifoFields
variable (s : State)

theorem discardFifo_eq : discardFifo s = { s with
    fifo := [],
    trunc := s.trunc || !s.fifo.isEmpty,
    wire := s.wire ++ (if s.fifo = [] then [] else [.trunc s.fifo.length]) } := by
  rcases h : s.fifo with _ | ⟨b, rest⟩
  · cases s; simp_all [discardFifo]
  · simp [discardFifo, h]

@[simp] theorem discardFifo_cfg : (discardFifo s).cfg = s.cfg := by rw [discardFifo_eq]
@[simp] theorem discardFifo_fstate : (discardFifo s).fstate = s.fstate := by rw [discardFifo_eq]
@[simp] theorem discardFifo_cflag : (discardFifo s).cflag = s.cflag := by rw [discardFifo_eq]
@[simp] theorem discardFifo_nextCur : (discardFifo s).nextCur = s.nextCur := by rw [discardFifo_eq]
@[simp] theorem discardFifo_endCur : (discardFifo s).endCur = s.endCur := by rw [discardFifo_eq]
@[simp] theorem discardFifo_sleepCnt : (discardFifo s).sleepCnt = s.sleepCnt := by rw [discardFifo_eq]
@[simp] theorem discardFifo_act : (discardFifo s).act = s.act := by rw [discardFifo_eq]
@[simp] theorem discardFifo_lineGpio : (discardFifo s).lineGpio = s.lineGpio := by rw [discardFifo_eq]
@[simp] theorem discardFifo_txen : (discardFifo s).txen = s.txen := by rw [discardFifo_eq]
@[simp] theorem discardFifo_txeie : (discardFifo s).txeie = s.txeie := by rw [discardFifo_eq]
@[simp] theorem discardFifo_fifo : (discardFifo s).fifo = [] := by rw [discardFifo_eq]
@[simp] theorem discardFifo_tie : (discardFifo s).tie = s.tie := by rw [discardFifo_eq]
@[simp] theorem discardFifo_tarmed : (discardFifo s).tarmed = s.tarmed := by rw [discardFifo_eq]
@[simp] theorem discardFifo_tcount : (discardFifo s).tcount = s.tcount := by rw [discardFifo_eq]
@[simp] theorem discardFifo_tpend : (discardFifo s).tpend = s.tpend := by rw [discardFifo_eq]
@[simp] theorem discardFifo_gie : (discardFifo s).gie = s.gie := by rw [discardFifo_eq]
@[simp] theorem discardFifo_trunc : (discardFifo s).trunc = (s.trunc || !s.fifo.isEmpty) := by rw [discardFifo_eq]
@[simp] theorem discardFifo_wire : (discardFifo s).wire = (s.wire ++ (if s.fifo = [] then [] else [.trunc s.fifo.length])) := by rw [discardFifo_eq]
@[simp] theorem discardFifo_fcode : (discardFifo s).fcode = s.fcode := by rw [discardFifo_eq]
@[simp] theorem discardFifo_refused : (discardFifo s).refused = s.refused := by rw [discardFifo_eq]
@[simp] theorem discardFifo_schedule : (discardFifo s).schedule = s.schedule := by rw [discardFifo_eq]
@[simp] theorem discardFifo_args : (discardFifo s).args = s.args := by rw [discardFifo_eq]
@[simp] theorem discardFifo_ret : (discardFifo s).ret = s.ret := by rw [discardFifo_eq]

end discardFifoFields

section uartDisableFields
variable (s : State)

theorem uartDisable_eq : uartDisable s = { s with
    txen := false,
    fifo := [],
    trunc := s.trunc || !s.fifo.isEmpty,
    wire := s.wire ++ (if s.fifo = [] then [] else [.trunc s.fifo.length]) ++ edgeEvents (line s) s.lineGpio } := by
  simp [uartDisable, discardFifo_eq, lineEdge, line]

@[simp] theorem uartDisable_cfg : (uartDisable s).cfg = s.cfg := by rw [uartDisable_eq]
@[simp] theorem uartDisable_fstate : (uartDisable s).fstate = s.fstate := by rw [uartDisable_eq]
@[simp] theorem uartDisable_cflag : (uartDisable s).cflag = s.cflag := by rw [uartDisable_eq]
@[simp] theorem uartDisable_nextCur : (uartDisable s).nextCur = s.nextCur := by rw [uartDisable_eq]
@[simp] theorem uartDisable_endCur : (uartDisable s).endCur = s.endCur := by rw [uartDisable_eq]
@[simp] theorem uartDisable_sleepCnt : (uartDisable s).sleepCnt = s.sleepCnt := by rw [uartDisable_eq]
@[simp] theorem uartDisable_act : (uartDisable s).act = s.act := by rw [uartDisable_eq]
@[simp] theorem uartDisable_lineGpio : (uartDisable s).lineGpio = s.lineGpio := by rw [uartDisable_eq]
@[simp] theorem uartDisable_txen : (uartDisable s).txen = false := by rw [uartDisable_eq]
@[simp] theorem uartDisable_txeie : (uartDisable s).txeie = s.txeie := by rw [uartDisable_eq]
@[simp] theorem uartDisable_fifo : (uartDisable s).fifo = [] := by rw [uartDisable_eq]
@[simp] theorem uartDisable_tie : (uartDisable s).tie = s.tie := by rw [uartDisable_eq]
@[simp] theorem uartDisable_tarmed : (uartDisable s).tarmed = s.tarmed := by rw [uartDisable_eq]
@[simp] theorem uartDisable_tcount : (uartDisable s).tcount = s.tcount := by rw [uartDisable_eq]
@[simp] theorem uartDisable_tpend : (uartDisable s).tpend = s.tpend := by rw [uartDisable_eq]
@[simp] theorem uartDisable_gie : (uartDisable s).gie = s.gie := by rw [uartDisable_eq]
@[simp] theorem uartDisable_trunc : (uartDisable s).trunc = (s.trunc || !s.fifo.isEmpty) := by rw [uartDisable_eq]
@[simp] theorem uartDisable_wire : (uartDisable s).wire = (s.wire ++ (if s.fifo = [] then [] else [.trunc s.fifo.length]) ++ edgeEvents (line s) s.lineGpio) := by rw [uartDisable_eq]
@[simp] theorem uartDisable_fcode : (uartDisable s).fcode = s.fcode := by rw [uartDisable_eq]
@[simp] theorem uartDisable_refused : (uartDisable s).refused = s.refused := by rw [uartDisable_eq]
@[simp] theorem uartDisable_schedule : (uartDisable s).schedule = s.schedule := by rw [uartDisable_eq]
@[simp] theorem uartDisable_args : (uartDisable s).args = s.args := by rw [uartDisable_eq]
@[simp] theorem uartDisable_ret : (uartDisable s).ret = s.ret := by rw [uartDisable_eq]

end uartDisableFields

section uartShiftFields
variable (s : State)

theorem uartShift_eq : uartShift s = { s with
    fifo := s.fifo.tail,
    wire := s.wire ++ s.fifo.head?.toList.map .byte } := by
  rcases h : s.fifo with _ | ⟨b, rest⟩
  · cases s; simp_all [uartShift]
  · simp [uartShift, emit, h]

@[simp] theorem uartShift_cfg : (uartShift s).cfg = s.cfg := by rw [uartShift_eq]
@[simp] theorem uartShift_fstate : (uartShift s).fstate = s.fstate := by rw [uartShift_eq]
@[simp] theorem uartShift_cflag : (uartShift s).cflag = s.cflag := by rw [uartShift_eq]
@[simp] theorem uartShift_nextCur : (uartShift s).nextCur = s.nextCur := by rw [uartShift_eq]
@[simp] theorem uartShift_endCur : (uartShift s).endCur = s.endCur := by rw [uartShift_eq]
@[simp] theorem uartShift_sleepCnt : (uartShift s).sleepCnt = s.sleepCnt := by rw [uartShift_eq]
@[simp] theorem uartShift_act : (uartShift s).act = s.act := by rw [uartShift_eq]
@[simp] theorem uartShift_lineGpio : (uartShift s).lineGpio = s.lineGpio := by rw [uartShift_eq]
@[simp] theorem uartShift_txen : (uartShift s).txen = s.txen := by rw [uartShift_eq]
@[simp] theorem uartShift_txeie : (uartShift s).txeie = s.txeie := by rw [uartShift_eq]
@[simp] theorem uartShift_fifo : (uartShift s).fifo = (s.fifo.tail) := by rw [uartShift_eq]
@[simp] theorem uartShift_tie : (uartShift s).tie = s.tie := by rw [uartShift_eq]
@[simp] theorem uartShift_tarmed : (uartShift s).tarmed = s.tarmed := by rw [uartShift_eq]
@[simp] theorem uartShift_tcount : (uartShift s).tcount = s.tcount := by rw [uartShift_eq]
@[simp] theorem uartShift_tpend : (uartShift s).tpend = s.tpend := by rw [uartShift_eq]
@[simp] theorem uartShift_gie : (uartShift s).gie = s.gie := by rw [uartShift_eq]
@[simp] theorem uartShift_trunc : (uartShift s).trunc = s.trunc := by rw [uartShift_eq]
@[simp] theorem uartShift_wire : (uartShift s).wire = (s.wire ++ s.fifo.head?.toList.map .byte) := by rw [uartShift_eq]
@[simp] theorem uartShift_fcode : (uartShift s).fcode = s.fcode := by rw [uartShift_eq]
@[simp] theorem uartShift_refused : (uartShift s).refused = s.refused := by rw [uartShift_eq]
@[simp] theorem uartShift_schedule : (uartShift s).schedule = s.schedule := by rw [uartShift_eq]
@[simp] theorem uartShift_args : (uartShift s).args = s.args := by rw [uartShift_eq]
@[simp] theorem uartShift_ret : (uartShift s).ret = s.ret := by rw [uartShift_eq]

end uartShiftFields

section completeIfDrainedFields
variable (s : State)

theorem completeIfDrained_eq : completeIfDrained s = { s with
    cflag := s.cflag || !hasMore s,
    txeie := s.txeie && hasMore s } := by
  cases h : hasMore s <;> simp [completeIfDrained, writeTxeie, h]

@[simp] theorem completeIfDrained_cfg : (completeIfDrained s).cfg = s.cfg := by rw [completeIfDrained_eq]
@[simp] theorem completeIfDrained_fstate : (completeIfDrained s).fstate = s.fstate := by rw [completeIfDrained_eq]
@[simp] theorem completeIfDrained_cflag : (completeIfDrained s).cflag = (s.cflag || !hasMore s) := by rw [completeIfDrained_eq]
@[simp] theorem completeIfDrained_nextCur : (completeIfDrained s).nextCur = s.nextCur := by rw [completeIfDrained_eq]
@[simp] theorem completeIfDrained_endCur : (completeIfDrained s).endCur = s.endCur := by rw [completeIfDrained_eq]
@[simp] theorem completeIfDrained_sleepCnt : (completeIfDrained s).sleepCnt = s.sleepCnt := by rw [completeIfDrained_eq]
@[simp] theorem completeIfDrained_act : (completeIfDrained s).act = s.act := by rw [completeIfDrained_eq]
@[simp] theorem completeIfDrained_lineGpio : (completeIfDrained s).lineGpio = s.lineGpio := by rw [completeIfDrained_eq]
@[simp] theorem completeIfDrained_txen : (completeIfDrained s).txen = s.txen := by rw [completeIfDrained_eq]
@[simp] theorem completeIfDrained_txeie : (completeIfDrained s).txeie = (s.txeie && hasMore s) := by rw [completeIfDrained_eq]
@[simp] theorem completeIfDrained_fifo : (completeIfDrained s).fifo = s.fifo := by rw [completeIfDrained_eq]
@[simp] theorem completeIfDrained_tie : (completeIfDrained s).tie = s.tie := by rw [completeIfDrained_eq]
@[simp] theorem completeIfDrained_tarmed : (completeIfDrained s).tarmed = s.tarmed := by rw [completeIfDrained_eq]
@[simp] theorem completeIfDrained_tcount : (completeIfDrained s).tcount = s.tcount := by rw [completeIfDrained_eq]
@[simp] theorem completeIfDrained_tpend : (completeIfDrained s).tpend = s.tpend := by rw [completeIfDrained_eq]
@[simp] theorem completeIfDrained_gie : (completeIfDrained s).gie = s.gie := by rw [completeIfDrained_eq]
@[simp] theorem completeIfDrained_trunc : (completeIfDrained s).trunc = s.trunc := by rw [completeIfDrained_eq]
@[simp] theorem completeIfDrained_wire : (completeIfDrained s).wire = s.wire := by rw [completeIfDrained_eq]
@[simp] theorem completeIfDrained_fcode : (completeIfDrained s).fcode = s.fcode := by rw [completeIfDrained_eq]
@[simp] theorem completeIfDrained_refused : (completeIfDrained s).refused = s.refused := by rw [completeIfDrained_eq]
@[simp] theorem completeIfDrained_schedule : (completeIfDrained s).schedule = s.schedule := by rw [completeIfDrained_eq]
@[simp] theorem completeIfDrained_args : (completeIfDrained s).args = s.args := by rw [completeIfDrained_eq]
@[simp] theorem completeIfDrained_ret : (completeIfDrained s).ret = s.ret := by rw [completeIfDrained_eq]

end completeIfDrainedFields

end Sys2Proof.Machine
end

