-- ==== Sys2Proof/Laws/Ops.lean ====
section
/-! SUPPORT. One lemma per shared operation that says all it can do: how a step ends, the primitives,
the payload read, the burst. -/

namespace Sys2Proof.Machine

/- ### The launch check and liveness of a state -/

theorem configOK_iff (c : Config) : configOK c = true ↔
    1 ≤ c.len ∧ c.len ≤ 513 ∧ c.payload.length = c.len ∧ c.payload[0]? = some 0x00 ∧
    1 ≤ c.fifoDepth ∧ c.fifoDepth ≤ 255 ∧ 1 ≤ c.timerWidth ∧ c.timerWidth ≤ 32 ∧
    1 ≤ c.breakTicks ∧ c.breakTicks ≤ 2 ^ c.timerWidth - 1 ∧
    1 ≤ c.markTicks ∧ c.markTicks ≤ 2 ^ c.timerWidth - 1 ∧
    0 ≤ c.sleepIters ∧ c.sleepIters ≤ 2 ^ 32 - 1 := by
  unfold configOK
  rw [decide_eq_true_iff]

theorem live_iff (s : State) :
    live s = true ↔ configOK s.cfg = true ∧ s.fcode = 0 ∧ s.refused = false := by
  unfold live
  rw [decide_eq_true_iff]
  tauto

theorem live_of (s : State) (h : configOK s.cfg = true) (h1 : s.fcode = 0)
    (h2 : s.refused = false) : live s = true := (live_iff s).2 ⟨h, h1, h2⟩

/-- The parameters of a live state pass R15. -/
theorem configOK_of_live {s : State} (h : live s = true) : configOK s.cfg = true :=
  ((live_iff s).1 h).1

theorem pow_timerWidth_le {c : Config} (h : configOK c = true) : 2 ^ c.timerWidth ≤ 2 ^ 32 :=
  Nat.pow_le_pow_right (by decide) ((configOK_iff c).1 h).2.2.2.2.2.2.2.1

/- ### How a step ends -/

@[simp] theorem finish_ok (s t : State) : finish s (.ok t) = .next t := rfl
@[simp] theorem finish_raise (s : State) (c : FaultCode) :
    finish s (.error (.code c)) = .next (raiseFault c s) := rfl
@[simp] theorem finish_stop (s : State) (f : Fault) : finish s (.error (.stop f)) = .fault f := rfl

/-- All the ends of a step that answer a next state. -/
theorem finish_next {s t : State} {r : Res State} (h : finish s r = .next t) :
    r = .ok t ∨ ∃ c, r = .error (.code c) ∧ t = raiseFault c s := by
  rcases r with (c | f) | u
  · exact .inr ⟨c, rfl, by simpa using h.symm⟩
  · simp at h
  · exact .inl (by simpa using h)

theorem finish_ne_refused (s : State) (r : Res State) (x : Refusal) : finish s r ≠ .refused x := by
  rcases r with (c | f) | u <;> simp

theorem takeStep_enabled {i : Instr} {s : State} (hl : live s = true) (hg : labelGuard i s = true)
    (r : Res State) : takeStep i s r = finish s r := by
  simp [takeStep, hl, hg]

theorem takeStep_not_enabled {i : Instr} {s : State} (hl : live s = true) (hg : labelGuard i s = false)
    (r : Res State) : takeStep i s r = .refused .notEnabled := by
  simp [takeStep, hl, hg]

theorem takeStep_not_live {i : Instr} {s : State} (hl : live s = false) (r : Res State) :
    takeStep i s r = .refused (whyStopped s) := by
  simp [takeStep, hl]

/-- A step is refused exactly where its label is not enabled. -/
theorem takeStep_refused_iff (i : Instr) (s : State) (r : Res State) :
    (∃ x, takeStep i s r = .refused x) ↔ ¬(live s = true ∧ labelGuard i s = true) := by
  cases hl : live s <;> cases hg : labelGuard i s <;> simp [takeStep, hl, hg, finish_ne_refused]

/-- All a step can do when it answers a next state. -/
theorem takeStep_next {i : Instr} {s t : State} {r : Res State} (h : takeStep i s r = .next t) :
    live s = true ∧ labelGuard i s = true ∧
      (r = .ok t ∨ ∃ c, r = .error (.code c) ∧ t = raiseFault c s) := by
  unfold takeStep at h
  split at h
  · split at h
    · exact ⟨‹_›, ‹_›, finish_next h⟩
    · cases h
  · cases h

/- ### exec: what each label's step is -/

/-- The effect of a label's own pseudocode, guards apart. -/
def effect (i : Instr) (s : State) : Res State :=
  match i with
  | .loopBreak =>
    .ok { timerArm s.cfg.breakTicks (gpioSetLine false (uartDisable s)) with fstate := .inBreak }
  | .loopInBreak => .ok s
  | .loopMark => .ok { timerArm s.cfg.markTicks s with fstate := .inMark }
  | .loopInMark => .ok s
  | .loopBeginSend =>
    match txStart (bufReset (uartEnable (timerStop s))) with
    | .error e => .error e
    | .ok t => .ok { t with fstate := .sending }
  | .loopSending =>
    .ok (if s.cflag then
           { gpioSetAct false s with sleepCnt := spinCount s.cfg, fstate := .sleeping } else s)
  | .loopSleeping =>
    .ok (if s.sleepCnt = 0 then { s with fstate := .break_ }
         else { s with sleepCnt := s.sleepCnt - 1 })
  | .loopIllegal => .error (.code .illegalFstate)
  | .tisrInBreak => .ok { gpioSetLine true { s with tpend := false } with fstate := .mark }
  | .tisrInMark => .ok { s with tpend := false, fstate := .beginSend }
  | .tisrSpurious => .error (.code .spuriousTimerIrq)
  | .txisr =>
    match txBurst s with
    | .error e => .error e
    | .ok (_, t) => .ok (completeIfDrained t)
  | .timerTick => .ok (timerTick s)
  | .uartShift => .ok (uartShift s)
  | .bufReset => .ok (bufReset s)
  | .bufHasMore => .ok { s with ret := .flag (hasMore s) }
  | .bufTakeNext =>
    match bufTakeNext s with
    | .error e => .error e
    | .ok (b, t) => .ok { t with ret := .byte b }
  | .txBurst =>
    match txBurst s with
    | .error e => .error e
    | .ok (k, t) => .ok { t with ret := .count k }
  | .txStart => txStart s
  | .uartPush => uartPush s.args.byte s
  | .uartEnable => .ok (uartEnable s)
  | .uartDisable => .ok (uartDisable s)
  | .timerArm => .ok (timerArm s.args.ticks s)
  | .timerStop => .ok (timerStop s)
  | .gpioSetLine => .ok (gpioSetLine s.args.level s)
  | .gpioSetAct => .ok (gpioSetAct s.args.level s)
  | .txeieSet => .ok (writeTxeie true s)
  | .txeieClear => .ok (writeTxeie false s)

theorem exec_eq (i : Instr) (s : State) : exec i s = takeStep i s (effect i s) := by
  cases i <;> rfl

/-- An enabled label ends with its effect. -/
theorem exec_enabled {i : Instr} {s : State} (hl : live s = true) (hg : labelGuard i s = true) :
    exec i s = finish s (effect i s) := by
  rw [exec_eq, takeStep_enabled hl hg]

/-- All that exec can do when it answers a next state. -/
theorem exec_next {i : Instr} {s t : State} (h : exec i s = .next t) :
    live s = true ∧ labelGuard i s = true ∧
      (effect i s = .ok t ∨ ∃ c, effect i s = .error (.code c) ∧ t = raiseFault c s) :=
  takeStep_next (exec_eq i s ▸ h)

theorem takes_iff (i : Instr) (s : State) :
    Takes i s ↔ live s = true ∧ labelGuard i s = true := by
  have h := takeStep_refused_iff i s (effect i s)
  simp only [Takes, exec_eq]
  rw [← not_exists, h, not_not]

/- ### step -/

/-- All that a step can do when it answers a next state: run the label at the head of the schedule, or
mark the refusal of a reserved or MICRO one. -/
theorem step_next {s t : State} (h : step s = .next t) :
    live s = true ∧ ∃ b rest, s.schedule = b :: rest ∧
      ((∃ i, readLabel b = .schedulable i ∧ exec i { s with schedule := rest } = .next t) ∨
        t = refuseLabel s) := by
  unfold step advance at h
  split at h
  · refine ⟨‹_›, ?_⟩
    unfold fetchLabel at h
    split at h
    · cases h
    · rename_i b rest hs
      refine ⟨b, rest, hs, ?_⟩
      cases hr : readLabel b <;> simp only [hr, runFetched] at h
      · exact .inl ⟨_, rfl, h⟩
      · exact .inr (by simpa using h.symm)
      · exact .inr (by simpa using h.symm)
  · cases h

theorem readLabel_schedulable {b : Byte} {i : Instr} (h : readLabel b = .schedulable i) :
    decodeLabel b = .ok i ∧ i.schedulable = true := by
  unfold readLabel at h
  split at h
  · split at h
    · rename_i j hj hs
      cases h
      exact ⟨hj, hs⟩
    · cases h
  · cases h

/- ### The primitives -/

@[simp] theorem edgeEvents_same (b : Bool) : edgeEvents b b = [] := by cases b <;> rfl
@[simp] theorem edgeEvents_fall : edgeEvents true false = [.brk] := rfl
@[simp] theorem edgeEvents_rise : edgeEvents false true = [.mab] := rfl

theorem line_eq (s : State) : line s = (s.txen || s.lineGpio) := by
  unfold line
  cases s.txen <;> simp

theorem timerLoad_of_lt {c : Config} {n : Nat} (h : n < 2 ^ c.timerWidth) :
    timerLoad c n = BitVec.ofNat 32 n := by
  simp [timerLoad, h]

/-- Whatever is loaded, TCOUNT holds no more than P_TIMER_WIDTH bits. -/
theorem timerLoad_fits {c : Config} (hc : configOK c = true) (n : Nat) :
    (timerLoad c n).toNat < 2 ^ c.timerWidth := by
  have h32 := pow_timerWidth_le hc
  unfold timerLoad
  split
  · rw [BitVec.toNat_ofNat, Nat.mod_eq_of_lt (by omega)]
    assumption
  · have h := Nat.mod_lt (Config.freeCount c.timerWidth n) (Nat.two_pow_pos c.timerWidth)
    rw [BitVec.toNat_ofNat, Nat.mod_eq_of_lt (by omega)]
    exact h

theorem breakTicks_load {c : Config} (hc : configOK c = true) :
    timerLoad c c.breakTicks = BitVec.ofNat 32 c.breakTicks := by
  have h := (configOK_iff c).1 hc
  exact timerLoad_of_lt (by have := Nat.two_pow_pos c.timerWidth; omega)

theorem markTicks_load {c : Config} (hc : configOK c = true) :
    timerLoad c c.markTicks = BitVec.ofNat 32 c.markTicks := by
  have h := (configOK_iff c).1 hc
  exact timerLoad_of_lt (by have := Nat.two_pow_pos c.timerWidth; omega)

/-- The payload is readable at exactly the indices 0 to P_LEN-1. -/
theorem memRead_of_lt {c : Config} (hc : configOK c = true) {a : Nat} (h : a < c.len) :
    ∃ b, c.payload[a]? = some b ∧ memRead c a = some b := by
  have hl := ((configOK_iff c).1 hc).2.2.1
  exact ⟨c.payload[a], by simp, by simp [memRead, h]⟩

theorem memRead_of_ge {c : Config} {a : Nat} (h : c.len ≤ a) : memRead c a = none := by
  simp [memRead, Nat.not_lt.2 h]

theorem hasMore_iff (s : State) : hasMore s = true ↔ s.nextCur.toNat ≤ s.endCur.toNat := by
  simp [hasMore]

theorem uartRoom_iff (s : State) : uartRoom s = true ↔ s.fifo.length < s.cfg.fifoDepth := by
  simp [uartRoom]

/-- All BUF.TAKENEXT can do. -/
theorem bufTakeNext_cases (s : State) :
    (hasMore s = false ∧ bufTakeNext s = .error (.code .bufUnderrun)) ∨
    (hasMore s = true ∧ memRead s.cfg s.nextCur.toNat = none ∧
      bufTakeNext s = .error (.stop .payloadRange)) ∨
    (hasMore s = true ∧ ∃ b, memRead s.cfg s.nextCur.toNat = some b ∧
      bufTakeNext s = .ok (b, { s with nextCur := s.nextCur + 1 })) := by
  cases h : hasMore s
  · exact .inl ⟨rfl, by simp [bufTakeNext, h]⟩
  · cases hm : memRead s.cfg s.nextCur.toNat with
    | none => exact .inr (.inl ⟨rfl, rfl, by simp [bufTakeNext, h, hm]⟩)
    | some b => exact .inr (.inr ⟨rfl, b, rfl, by simp [bufTakeNext, h, hm]⟩)

/-- All UART.PUSH can do. -/
theorem uartPush_cases (b : Byte) (s : State) :
    (s.txen = false ∧ uartPush b s = .error (.code .pushWhileDisabled)) ∨
    (s.txen = true ∧ uartRoom s = false ∧ uartPush b s = .error (.code .fifoOverflow)) ∨
    (s.txen = true ∧ uartRoom s = true ∧ uartPush b s = .ok { s with fifo := s.fifo ++ [b] }) := by
  cases ht : s.txen <;> cases hr : uartRoom s <;> simp [uartPush, ht, hr]

/- ### The burst -/

/-- What any burst changes: FIFO gains bytes at its end and NEXT moves. -/
theorem burstLoop_frame {fuel k j : Nat} {s t : State} (h : burstLoop fuel k s = .ok (j, t)) :
    ∃ fs n, t = { s with fifo := s.fifo ++ fs, nextCur := n } := by
  induction fuel generalizing k s with
  | zero => cases h; exact ⟨[], t.nextCur, by simp⟩
  | succ fuel ih =>
    unfold burstLoop at h
    split at h
    · rcases bufTakeNext_cases s with ⟨-, e⟩ | ⟨-, -, e⟩ | ⟨-, b, -, e⟩ <;>
        simp only [e] at h
      · cases h
      · cases h
      · rcases uartPush_cases b { s with nextCur := s.nextCur + 1 } with
          ⟨-, e'⟩ | ⟨-, -, e'⟩ | ⟨-, -, e'⟩ <;> simp only [e'] at h
        · cases h
        · cases h
        · obtain ⟨fs, n, rfl⟩ := ih h
          exact ⟨b :: fs, n, by simp⟩
    · cases h
      exact ⟨[], t.nextCur, by simp⟩

/-- The only early ends of a burst: the transmitter is disabled, or NEXT is no payload index. -/
theorem burstLoop_error {fuel k : Nat} {s : State} {e : Halt} (h : burstLoop fuel k s = .error e) :
    (e = .code .pushWhileDisabled ∧ s.txen = false) ∨ e = .stop .payloadRange := by
  induction fuel generalizing k s with
  | zero => cases h
  | succ fuel ih =>
    unfold burstLoop at h
    split at h
    · rename_i hc
      rw [Bool.and_eq_true] at hc
      rcases bufTakeNext_cases s with ⟨hm, -⟩ | ⟨-, -, e1⟩ | ⟨-, b, -, e1⟩
      · simp [hc.2] at hm
      · simp only [e1] at h
        cases h
        exact .inr rfl
      · simp only [e1] at h
        rcases uartPush_cases b { s with nextCur := s.nextCur + 1 } with
          ⟨ht, e2⟩ | ⟨-, hr, -⟩ | ⟨-, -, e2⟩
        · simp only [e2] at h
          cases h
          exact .inl ⟨rfl, ht⟩
        · exact absurd hc.1 (by simpa [uartRoom] using hr)
        · simp only [e2] at h
          have h' := ih h
          exact h'
    · cases h

/-- A burst over an enabled transmitter with END inside the payload: `burstCount` bytes, in order. -/
theorem burstLoop_eq {fuel k : Nat} {s : State} (hc : configOK s.cfg = true) (ht : s.txen = true)
    (he : s.endCur.toNat < s.cfg.len) (hf : burstCount s ≤ fuel) :
    burstLoop fuel k s = .ok (k + burstCount s, { s with
      fifo := s.fifo ++ (s.cfg.payload.drop s.nextCur.toNat).take (burstCount s),
      nextCur := BitVec.ofNat 16 (s.nextCur.toNat + burstCount s) }) := by
  have hok := (configOK_iff s.cfg).1 hc
  induction fuel generalizing k s with
  | zero =>
    have h0 : burstCount s = 0 := by omega
    simp [burstLoop, h0]
  | succ fuel ih =>
    unfold burstLoop
    by_cases hcond : (uartRoom s && hasMore s) = true
    · rw [if_pos hcond]
      rw [Bool.and_eq_true, uartRoom_iff, hasMore_iff] at hcond
      obtain ⟨b, hb, hm⟩ := memRead_of_lt hc (a := s.nextCur.toNat) (by omega)
      have e1 : bufTakeNext s = .ok (b, { s with nextCur := s.nextCur + 1 }) := by
        simp [bufTakeNext, hasMore, hcond.2, hm]
      have e2 : uartPush b { s with nextCur := s.nextCur + 1 }
          = .ok { s with nextCur := s.nextCur + 1, fifo := s.fifo ++ [b] } := by
        simp [uartPush, uartRoom, ht, hcond.1]
      have hn : (s.nextCur + 1).toNat = s.nextCur.toNat + 1 := by
        rw [BitVec.toNat_add]
        exact Nat.mod_eq_of_lt (by simp; omega)
      have hcount : burstCount s
          = burstCount { s with nextCur := s.nextCur + 1, fifo := s.fifo ++ [b] } + 1 := by
        simp only [burstCount, hn, List.length_append, List.length_cons, List.length_nil]
        omega
      simp only [e1, e2]
      rw [ih (s := { s with nextCur := s.nextCur + 1, fifo := s.fifo ++ [b] }) hc ht he
        (by omega) hok]
      have hdrop : s.cfg.payload.drop s.nextCur.toNat
          = b :: s.cfg.payload.drop (s.nextCur.toNat + 1) := by
        obtain ⟨hlt, hbe⟩ := List.getElem?_eq_some_iff.1 hb
        rw [List.drop_eq_getElem_cons hlt, hbe]
      rw [hcount, hdrop]
      simp only [hn, List.take_succ_cons, List.append_assoc, List.singleton_append]
      congr 2
      · omega
      · congr 2
        omega
    · rw [if_neg hcond]
      have h0 : burstCount s = 0 := by
        rw [Bool.and_eq_true, uartRoom_iff, hasMore_iff] at hcond
        unfold burstCount
        omega
      simp [h0]

/-- A burst with nothing to push changes nothing, whatever TXEN is. -/
theorem burstLoop_idle {fuel k : Nat} {s : State} (h : burstCount s = 0) :
    burstLoop fuel k s = .ok (k, s) := by
  cases fuel with
  | zero => rfl
  | succ fuel =>
    unfold burstLoop
    rw [if_neg]
    rw [Bool.and_eq_true, uartRoom_iff, hasMore_iff]
    unfold burstCount at h
    omega

/-- With something to push and the transmitter disabled, the burst raises at its first byte. -/
theorem burstLoop_disabled {fuel k : Nat} {s : State} (hc : configOK s.cfg = true)
    (ht : s.txen = false) (he : s.endCur.toNat < s.cfg.len) (h : 0 < burstCount s) :
    burstLoop (fuel + 1) k s = .error (.code .pushWhileDisabled) := by
  have hr : s.fifo.length < s.cfg.fifoDepth := by unfold burstCount at h; omega
  have hm : s.nextCur.toNat ≤ s.endCur.toNat := by unfold burstCount at h; omega
  obtain ⟨b, -, hb⟩ := memRead_of_lt hc (a := s.nextCur.toNat) (by omega)
  unfold burstLoop
  rw [if_pos (by simp [uartRoom, hasMore, hr, hm])]
  simp [bufTakeNext, hasMore, hm, hb, uartPush, ht]

/-- TX.BURST over an enabled transmitter, or with nothing to push. -/
theorem txBurst_eq {s : State} (hc : configOK s.cfg = true) (he : s.endCur.toNat < s.cfg.len)
    (ht : s.txen = true ∨ burstCount s = 0) :
    txBurst s = .ok (burstCount s, { s with
      fifo := s.fifo ++ (s.cfg.payload.drop s.nextCur.toNat).take (burstCount s),
      nextCur := BitVec.ofNat 16 (s.nextCur.toNat + burstCount s) }) := by
  unfold txBurst
  rcases ht with ht | h0
  · rw [burstLoop_eq hc ht he (by unfold burstCount; omega)]
    simp
  · rw [burstLoop_idle h0]
    simp [h0]

theorem txBurst_disabled {s : State} (hc : configOK s.cfg = true) (he : s.endCur.toNat < s.cfg.len)
    (ht : s.txen = false) (h : 0 < burstCount s) :
    txBurst s = .error (.code .pushWhileDisabled) := by
  obtain ⟨d, hd⟩ := Nat.exists_eq_add_of_le' ((configOK_iff s.cfg).1 hc).2.2.2.2.1
  rw [txBurst, hd]
  exact burstLoop_disabled hc ht he h

/-- TX.START over an enabled transmitter, or with nothing to push. -/
theorem txStart_eq {s : State} (hc : configOK s.cfg = true) (he : s.endCur.toNat < s.cfg.len)
    (ht : s.txen = true ∨ burstCount s = 0) :
    txStart s = .ok { s with
      cflag := false, act := true,
      fifo := s.fifo ++ (s.cfg.payload.drop s.nextCur.toNat).take (burstCount s),
      nextCur := BitVec.ofNat 16 (s.nextCur.toNat + burstCount s), txeie := true } := by
  have h := txBurst_eq (s := gpioSetAct true { s with cflag := false }) hc he ht
  simp only [txStart, h]
  rfl

theorem txStart_disabled {s : State} (hc : configOK s.cfg = true) (he : s.endCur.toNat < s.cfg.len)
    (ht : s.txen = false) (h : 0 < burstCount s) :
    txStart s = .error (.code .pushWhileDisabled) := by
  have h' := txBurst_disabled (s := gpioSetAct true { s with cflag := false }) hc he ht h
  simp only [txStart, h']

/-- END after BUF.RESET, as a number. -/
theorem lastIndex_toNat {c : Config} (hc : configOK c = true) :
    (lastIndex c).toNat = c.len - 1 := by
  have h := (configOK_iff c).1 hc
  rw [lastIndex, BitVec.toNat_ofNat]
  exact Nat.mod_eq_of_lt (by omega)

/- ### What no label's effect writes -/

theorem txBurst_frame {s t : State} {k : Nat} (h : txBurst s = .ok (k, t)) :
    ∃ fs n, t = { s with fifo := s.fifo ++ fs, nextCur := n } := burstLoop_frame h

theorem txStart_frame {s t : State} (h : txStart s = .ok t) :
    ∃ fs n, t = { s with
      cflag := false, act := true, fifo := s.fifo ++ fs, nextCur := n, txeie := true } := by
  unfold txStart at h
  split at h
  · cases h
  · rename_i hb
    obtain ⟨fs, n, rfl⟩ := txBurst_frame hb
    cases h
    exact ⟨fs, n, rfl⟩

/-- An effect that ends well writes neither the fault code, nor the refusal mark, nor the model's own
schedule and operands. -/
theorem effect_frame {i : Instr} {s t : State} (h : effect i s = .ok t) :
    t.fcode = s.fcode ∧ t.refused = s.refused ∧ t.schedule = s.schedule ∧ t.args = s.args := by
  cases i <;> simp only [effect, Except.ok.injEq, reduceCtorEq] at h
  case loopBeginSend =>
    split at h
    · cases h
    · rename_i hb
      obtain ⟨fs, n, rfl⟩ := txStart_frame hb
      cases h
      simp
  case loopSending => subst h; split <;> simp
  case loopSleeping => subst h; split <;> simp
  case txisr =>
    split at h
    · cases h
    · rename_i hb
      obtain ⟨fs, n, rfl⟩ := txBurst_frame hb
      cases h
      simp
  case bufTakeNext =>
    rcases bufTakeNext_cases s with ⟨-, e⟩ | ⟨-, -, e⟩ | ⟨-, b, -, e⟩ <;> simp only [e] at h
    · cases h
    · cases h
    · cases h
      simp
  case txBurst =>
    split at h
    · cases h
    · rename_i hb
      obtain ⟨fs, n, rfl⟩ := txBurst_frame hb
      cases h
      simp
  case txStart =>
    obtain ⟨fs, n, rfl⟩ := txStart_frame h
    simp
  case uartPush =>
    rcases uartPush_cases s.args.byte s with ⟨-, e⟩ | ⟨-, -, e⟩ | ⟨-, -, e⟩ <;> simp only [e] at h
    · cases h
    · cases h
    · cases h
      simp
  all_goals (subst h; simp)

end Sys2Proof.Machine
end

