-- ==== Sys2Proof/Laws/PerInstr.lean ====
section
/-! SUPPORT. The statement made of every label, one lemma per constructor. -/

namespace Sys2Proof.Laws.Spelling

open Sys2Proof Sys2Proof.Machine

/-- How a label is spelled and encoded (spec 30_encoding.md R71, R79, R85): its mnemonic names it in a
schedule exactly if it is schedulable, and its byte has the reading that says so. -/
def Statement (i : Instr) : Prop :=
  (i.schedulable = true ↔ i ∈ schedulableLabels) ∧
  labelOfMnemonic (mnemonic i).toList = (if i.schedulable then some i else none) ∧
  readLabel (encode i) = if i.schedulable then .schedulable i else .micro i

theorem loopBreak : Statement .loopBreak := by unfold Statement; decide
theorem loopInBreak : Statement .loopInBreak := by unfold Statement; decide
theorem loopMark : Statement .loopMark := by unfold Statement; decide
theorem loopInMark : Statement .loopInMark := by unfold Statement; decide
theorem loopBeginSend : Statement .loopBeginSend := by unfold Statement; decide
theorem loopSending : Statement .loopSending := by unfold Statement; decide
theorem loopSleeping : Statement .loopSleeping := by unfold Statement; decide
theorem loopIllegal : Statement .loopIllegal := by unfold Statement; decide
theorem tisrInBreak : Statement .tisrInBreak := by unfold Statement; decide
theorem tisrInMark : Statement .tisrInMark := by unfold Statement; decide
theorem tisrSpurious : Statement .tisrSpurious := by unfold Statement; decide
theorem txisr : Statement .txisr := by unfold Statement; decide
theorem timerTick : Statement .timerTick := by unfold Statement; decide
theorem uartShift : Statement .uartShift := by unfold Statement; decide
theorem bufReset : Statement .bufReset := by unfold Statement; decide
theorem bufHasMore : Statement .bufHasMore := by unfold Statement; decide
theorem bufTakeNext : Statement .bufTakeNext := by unfold Statement; decide
theorem txBurst : Statement .txBurst := by unfold Statement; decide
theorem txStart : Statement .txStart := by unfold Statement; decide
theorem uartPush : Statement .uartPush := by unfold Statement; decide
theorem uartEnable : Statement .uartEnable := by unfold Statement; decide
theorem uartDisable : Statement .uartDisable := by unfold Statement; decide
theorem timerArm : Statement .timerArm := by unfold Statement; decide
theorem timerStop : Statement .timerStop := by unfold Statement; decide
theorem gpioSetLine : Statement .gpioSetLine := by unfold Statement; decide
theorem gpioSetAct : Statement .gpioSetAct := by unfold Statement; decide
theorem txeieSet : Statement .txeieSet := by unfold Statement; decide
theorem txeieClear : Statement .txeieClear := by unfold Statement; decide

end Sys2Proof.Laws.Spelling
end

