-- ==== Sys2Proof/Tests/Slice0.lean ====
section
/-! SUPPORT. Tests of single steps against spec 95_test_vectors.md, of decoding against words written
from 30_encoding.md, of the well-formedness checks, and a witness for the hypotheses of each statement. -/

namespace Sys2Proof.Tests

open Sys2Proof Sys2Proof.Machine

/-- CFG-A of 95_test_vectors.md. -/
def cfgA : Config where
  len := 4
  payload := [0x00, 0x01, 0x02, 0x03]
  fifoDepth := 2
  breakTicks := 2
  markTicks := 1
  tickHz := 1000
  timerWidth := 16
  sleepIters := 1

/-- The parameters of V13 and P4. -/
def cfgP4 : Config :=
  { cfgA with len := 5, payload := [0x00, 0x0A, 0x0B, 0x0C, 0x0D], sleepIters := 0 }

/-- One byte, one FIFO place, one tick: the shortest frame. -/
def cfgOne : Config :=
  { cfgA with len := 1, payload := [0x00], fifoDepth := 1, breakTicks := 1, timerWidth := 1,
              sleepIters := 0 }

/-- Two bytes, one FIFO place. -/
def cfgTwo : Config := { cfgOne with len := 2, payload := [0x00, 0x01] }

def launchA : State := State.launch cfgA

/-- CFG-A in the middle of a frame: two bytes on the line, two to push. -/
def sendingA : State :=
  { launchA with fstate := .sending, txen := true, txeie := true, act := true, nextCur := 2 }

/-- What `f` reads in the next state, if there is one. -/
def after {α : Type} (o : Host.Outcome State Fault Refusal) (f : State → α) : Option α :=
  match o with
  | .next t => some (f t)
  | .fault _ => none
  | .refused _ => none

/-- A step can exist in `s`. -/
abbrev Ready (s : State) : Prop := configOK s.cfg = true ∧ s.fcode = 0 ∧ s.refused = false

/- ## Decoding: AGENT and OP written out from R70 to R77 -/

theorem test_decode_loop : decodeLabel (0b000#3 ++ 0b00101#5) = .ok .loopSending := by decide
theorem test_decode_loop_illegal : decodeLabel (0b000#3 ++ 0b00111#5) = .ok .loopIllegal := by decide
theorem test_decode_tisr : decodeLabel (0b001#3 ++ 0b00001#5) = .ok .tisrInMark := by decide
theorem test_decode_txisr : decodeLabel (0b010#3 ++ 0b00000#5) = .ok .txisr := by decide
theorem test_decode_timer : decodeLabel (0b011#3 ++ 0b00000#5) = .ok .timerTick := by decide
theorem test_decode_uart : decodeLabel (0b100#3 ++ 0b00000#5) = .ok .uartShift := by decide
theorem test_decode_micro : decodeLabel (0b111#3 ++ 0b00010#5) = .ok .bufTakeNext := by decide
theorem test_decode_micro_last : decodeLabel (0b111#3 ++ 0b01101#5) = .ok .txeieClear := by decide
theorem test_decode_nothing : decodeBytes [] = .error .noByte := by decide
theorem test_decode_rest : decodeBytes [0x06, 0xFF] = .ok (.loopSleeping, [0xFF]) := by decide
theorem test_table_word : decodeTableWord 8 0xE5 = some .uartPush := by decide
theorem test_table_word_reserved : decodeTableWord 8 0xA0 = none := by decide
/-- R87's example. -/
theorem test_schedule_encoding :
    encodeSchedule [.loopBreak, .timerTick, .tisrInBreak] = [0x00, 0x60, 0x20] ∧
    hexSpelling [0x00, 0x60, 0x20] = "00 60 20".toList := by decide
/-- P1's first line, with its comment (R85), and a pseudo-instruction (R86). -/
theorem test_parse_line :
    parseLine "LOOP.BREAK        ; LOOP".toList = some (some (.label .loopBreak)) ∧
    parseLine "TICK 12".toList = some (some (.tick 12)) := by decide
theorem test_parse_refuses_micro_and_zero :
    parseLine "BUF.RESET".toList = none ∧ parseLine "TICK 0".toList = none := by decide

/- ## Well-formedness: each check refuses an ill-formed term -/

theorem test_wf_schedule :
    scheduleWf [.loopBreak, .txisr] = true ∧ scheduleWf [.loopBreak, .bufReset] = false := by decide
theorem test_wf_pseudo_label :
    Pseudo.wf (.label .uartShift) = true ∧ Pseudo.wf (.label .uartPush) = false := by decide
theorem test_wf_pseudo_counts :
    Pseudo.wf (.tick 0) = false ∧ Pseudo.wf (.shift 0) = false ∧ Pseudo.wf (.spin 0) = false ∧
    Pseudo.wf (.tick 1) = true := by decide
theorem test_wf_bytes :
    bytesWf [0x00, 0x80] = true ∧ bytesWf [0x00, 0xE2] = false ∧ bytesWf [0x08] = false := by decide

/- ## One step of each label (vectors V1 to V40) -/

/-- V18. -/
theorem test_loopBreak :
    after (exec .loopBreak launchA) (fun t => (t.fstate, t.tcount, t.wire, statusWord t))
      = some (.inBreak, 2, [.brk], 0x0A81) := by decide
/-- V19. -/
theorem test_loopBreak_queued :
    after (exec .loopBreak { launchA with txen := true, fifo := [0x02, 0x03] })
      (fun t => (t.wire.map wireWord, t.trunc, t.fifo, t.txen, t.lineGpio))
      = some ([0x0402, 0x0100], true, [], false, false) := by decide
/-- V20. -/
theorem test_loopInBreak :
    after (exec .loopInBreak { launchA with fstate := .inBreak, tcount := 2 })
      (fun t => (t.fstate, t.tcount)) = some (.inBreak, 2) := by decide
/-- V22. -/
theorem test_loopMark :
    after (exec .loopMark { launchA with fstate := .mark, tie := true, tpend := true })
      (fun t => (t.fstate, t.tcount, t.tarmed, t.tpend, t.tie))
      = some (.inMark, 1, true, false, true) := by decide
theorem test_loopInMark :
    after (exec .loopInMark { launchA with fstate := .inMark, tpend := true })
      (fun t => (t.fstate, t.tpend)) = some (.inMark, true) := by decide
/-- V24. -/
theorem test_loopBeginSend :
    after (exec .loopBeginSend
        { launchA with fstate := .beginSend, tie := true, nextCur := 4, cflag := true })
      (fun t => (t.fifo, t.nextCur, t.cflag, t.wire, statusWord t))
      = some ([0x00, 0x01], 2, false, [], 0x0975) := by decide
/-- P3, step 1: the stale cursor, and a FIFO of one place. -/
theorem test_loopBeginSend_one_byte :
    after (exec .loopBeginSend { State.launch cfgOne with fstate := .beginSend, nextCur := 1 })
      (fun t => (t.fifo, t.nextCur, t.endCur, t.txeie, t.cflag))
      = some ([0x00], 1, 0, true, false) := by decide
/-- V25b. -/
theorem test_loopSending :
    after (exec .loopSending { launchA with fstate := .sending, cflag := true, act := true })
      (fun t => (t.fstate, t.act, t.sleepCnt, t.cflag)) = some (.sleeping, false, 1, true) := by decide
/-- V25a. -/
theorem test_loopSending_poll :
    after (exec .loopSending { launchA with fstate := .sending, act := true })
      (fun t => (t.fstate, t.act, t.sleepCnt)) = some (.sending, true, 0) := by decide
/-- V26a. -/
theorem test_loopSleeping :
    after (exec .loopSleeping { launchA with fstate := .sleeping, sleepCnt := 5 })
      (fun t => (t.fstate, t.sleepCnt)) = some (.sleeping, 4) := by decide
/-- V26b. -/
theorem test_loopSleeping_end :
    after (exec .loopSleeping { launchA with fstate := .sleeping }) (fun t => t.fstate)
      = some .break_ := by decide
/-- V27. -/
theorem test_loopIllegal :
    after (exec .loopIllegal { launchA with fstate := .reserved })
      (fun t => (t.fcode, t.fstate)) = some (5, .reserved) := by decide
/-- V21. -/
theorem test_tisrInBreak :
    after (exec .tisrInBreak
        { launchA with fstate := .inBreak, tpend := true, tie := true, lineGpio := false })
      (fun t => (t.fstate, t.tpend, t.tie, t.lineGpio, t.wire))
      = some (.mark, false, true, true, [.mab]) := by decide
/-- V23. -/
theorem test_tisrInMark :
    after (exec .tisrInMark { launchA with fstate := .inMark, tpend := true, tie := true })
      (fun t => (t.fstate, t.tpend, t.tie)) = some (.beginSend, false, true) := by decide
/-- V28 and V46. -/
theorem test_tisrSpurious :
    after (exec .tisrSpurious
        { launchA with fstate := .sending, tpend := true, tie := true, txen := true, act := true })
      (fun t => (t.tpend, statusWord t)) = some (true, 0x8CF5) := by decide
/-- V14. -/
theorem test_txisr :
    after (exec .txisr sendingA) (fun t => (t.fifo, t.nextCur, t.cflag, t.txeie))
      = some ([0x02, 0x03], 4, true, false) := by decide
/-- V13. -/
theorem test_txisr_partial :
    after (exec .txisr { State.launch cfgP4 with
        fstate := .sending, txen := true, txeie := true, fifo := [0x0A], nextCur := 2 })
      (fun t => (t.fifo, t.nextCur, t.cflag, t.txeie))
      = some ([0x0A, 0x0B], 3, false, true) := by decide
/-- V31, the third tick. -/
theorem test_timerTick_expiry :
    after (exec .timerTick { launchA with tarmed := true, tcount := 1 })
      (fun t => (t.tcount, t.tarmed, t.tpend)) = some (0, false, true) := by decide
/-- V31, the first tick. -/
theorem test_timerTick :
    after (exec .timerTick { launchA with tarmed := true, tcount := 3 })
      (fun t => (t.tcount, t.tarmed, t.tpend)) = some (2, true, false) := by decide
/-- V34. -/
theorem test_uartShift :
    after (exec .uartShift { launchA with txen := true, fifo := [0x00, 0x01] })
      (fun t => (t.fifo, t.wire.map wireWord)) = some ([0x01], [0x0300]) := by decide
/-- V1. -/
theorem test_bufReset :
    after (exec .bufReset { launchA with nextCur := 4 }) (fun t => (t.nextCur, t.endCur))
      = some (0, 3) := by decide
/-- V3. -/
theorem test_bufHasMore :
    after (exec .bufHasMore { launchA with nextCur := 3 }) (fun t => t.ret) = some (.flag true) ∧
    after (exec .bufHasMore { launchA with nextCur := 4 }) (fun t => t.ret) = some (.flag false) := by
  decide
/-- V5. -/
theorem test_bufTakeNext :
    after (exec .bufTakeNext { launchA with nextCur := 3 }) (fun t => (t.ret, t.nextCur))
      = some (.byte 0x03, 4) := by decide
/-- V6. -/
theorem test_bufTakeNext_underrun :
    after (exec .bufTakeNext { launchA with nextCur := 4 }) (fun t => (t.fcode, t.nextCur))
      = some (1, 4) := by decide
/-- V7. -/
theorem test_txBurst :
    after (exec .txBurst { launchA with txen := true }) (fun t => (t.ret, t.fifo, t.nextCur))
      = some (.count 2, [0x00, 0x01], 2) := by decide
/-- V10. -/
theorem test_txBurst_both_limits :
    after (exec .txBurst { State.launch { cfgA with fifoDepth := 3 } with
        txen := true, fifo := [0x01], nextCur := 2 })
      (fun t => (t.ret, t.fifo, t.nextCur)) = some (.count 2, [0x01, 0x02, 0x03], 4) := by decide
/-- V11. -/
theorem test_txStart :
    after (exec .txStart { State.launch cfgOne with txen := true, cflag := true })
      (fun t => (t.cflag, t.act, t.fifo, t.nextCur, t.txeie, txeIrq t))
      = some (false, true, [0x00], 1, true, false) := by decide
/-- V39. -/
theorem test_uartPush_full :
    after (exec .uartPush { launchA with txen := true, fifo := [0x00, 0x01] }) (fun t => t.fcode)
      = some 2 := by decide
/-- R176's example. -/
theorem test_uartPush :
    after (exec .uartPush
        { launchA with txen := true, fifo := [0x00], args := { launchA.args with byte := 0x01 } })
      (fun t => t.fifo) = some [0x00, 0x01] := by decide
/-- V37. -/
theorem test_uartEnable :
    after (exec .uartEnable { launchA with lineGpio := false }) (fun t => (t.txen, t.wire))
      = some (true, [.mab]) := by decide
/-- V36. -/
theorem test_uartDisable :
    after (exec .uartDisable { launchA with txen := true }) (fun t => (t.txen, t.wire, t.trunc))
      = some (false, [], false) := by decide
/-- V30. -/
theorem test_timerArm :
    after (exec .timerArm { launchA with tpend := true, args := { launchA.args with ticks := 3 } })
      (fun t => (t.tcount, t.tarmed, t.tpend, t.tie)) = some (3, true, false, true) := by decide
/-- V33. -/
theorem test_timerStop :
    after (exec .timerStop { launchA with tpend := true, tie := true, tcount := 7, tarmed := true })
      (fun t => (t.tcount, t.tarmed, t.tpend, t.tie)) = some (0, false, false, false) := by decide
/-- V38. -/
theorem test_gpioSetLine :
    after (exec .gpioSetLine { launchA with txen := true }) (fun t => (t.lineGpio, line t, t.wire))
      = some (false, true, []) := by decide
/-- R179's example. -/
theorem test_gpioSetAct :
    after (exec .gpioSetAct { launchA with args := { launchA.args with level := true } })
      (fun t => (t.act, t.wire)) = some (true, []) := by decide
theorem test_txeieSet : after (exec .txeieSet launchA) (fun t => t.txeie) = some true := by decide
theorem test_txeieClear :
    after (exec .txeieClear { launchA with txeie := true }) (fun t => t.txeie) = some false := by decide

/- ## Guards and refusals -/

/-- V16, V32, V35: a false guard is no step and no fault. -/
theorem test_not_enabled :
    exec .txisr { launchA with txeie := true, fifo := [0x00, 0x01] } = .refused .notEnabled ∧
    exec .timerTick launchA = .refused .notEnabled ∧
    exec .uartShift { launchA with txen := true } = .refused .notEnabled := ⟨rfl, rfl, rfl⟩
/-- V43: a MICRO label in a schedule. -/
theorem test_micro_label_refused :
    after (step (State.launchWith cfgA [0xE2])) (fun t => (t.refused, t.nextCur)) = some (true, 0) := by
  decide
/-- V47. -/
theorem test_config_check :
    configOK { cfgA with len := 0, payload := [] } = false ∧
    configOK { cfgA with payload := [0x55, 0x01, 0x02, 0x03] } = false ∧
    configOK { cfgA with fifoDepth := 0 } = false ∧
    configOK { cfgA with breakTicks := 65536 } = false ∧
    configOK { cfgA with sleepIters := 0 } = true := by decide
/-- A placed label is the one the next step takes, also where its guard was false. -/
theorem test_withFetchWord :
    after (step (State.reset.withFetchWord 8 0x00)) (fun t => t.wire) = some [.brk] ∧
    after (step (State.reset.withFetchWord 8 0x21)) (fun t => t.fstate) = some .beginSend := by decide

/- ## Witnesses: the hypotheses of each statement, met together -/

/-- The states a schedule goes through; at a step without a next state the walk stays. -/
def walk (c : Config) (bs : List Byte) : Nat → State
  | 0 => State.launchWith c bs
  | n + 1 =>
    match step (walk c bs n) with
    | .next t => t
    | .fault _ => walk c bs n
    | .refused _ => walk c bs n

theorem walk_reachable (c : Config) (bs : List Byte) (n : Nat) : Reachable c (walk c bs n) := by
  induction n with
  | zero => exact .launch bs
  | succ n ih =>
    unfold walk
    split
    · exact .step ih ‹_›
    · exact ih
    · exact ih

/-- The shortest way to BEGIN_SEND, then one byte, TXISR, SENDING. -/
def frameTwo : List Byte := [0x00, 0x60, 0x20, 0x02, 0x60, 0x21, 0x04, 0x80, 0x40, 0x05]

/-- The state a label leads to; itself where there is none. -/
def next (i : Instr) (s : State) : State := (after (exec i s) id).getD s

/-- The ends of the reserved ranges, and of AGENT 5 and 6. -/
theorem witness_LabelMapIsAsTabled :
    ([0x08, 0x1F, 0x23, 0x3F, 0x41, 0x5F, 0x61, 0x7F, 0x81, 0x9F, 0xEE, 0xFF] : List Byte).all
      (fun b => readLabel b == .reserved) = true ∧
    (encode .bufReset).toNat = 0xE0 ∧ (encode .txeieClear).toNat = 0xED := by decide

theorem witness_LabelIsAgentAndOp :
    agentField 0xA0 = 5 ∧ agentField 0xBF = 5 ∧ agentField 0xC0 = 6 ∧ agentField 0xDF = 6 := by decide

theorem witness_ScheduleEncodingRoundTrips :
    decodeSchedule [0x00, 0x60, 0x20] = .ok [.loopBreak, .timerTick, .tisrInBreak] ∧
    bytesWf [0x00, 0x60, 0x20] = true ∧ decodeSchedule [] = .ok [] := by decide

theorem witness_WireEventWords :
    wireOfWord 0x0401 = some (.trunc 1) ∧ wireOfWord 0x04FF = some (.trunc 255) ∧
    wireOfWord 0x03FF = some (.byte 0xFF) ∧ wireOfWord 0x0400 = none := by decide

theorem witness_PseudoInstructionsExpand :
    let s : State := { launchA with fstate := .inBreak, tarmed := true, tcount := 2 }
    Path s (expand s (.tick 2)) { s with tcount := 0, tarmed := false, tpend := true } :=
  .cons ⟨rfl, rfl⟩ (.cons ⟨rfl, rfl⟩ (.nil _))

/-- The least and the largest admissible parameters. -/
theorem witness_LaunchStateIsAsTabled :
    configOK cfgOne = true ∧
    configOK { len := 513, payload := List.replicate 513 0x00, fifoDepth := 255,
               breakTicks := 4294967295, markTicks := 4294967295, tickHz := 0, timerWidth := 32,
               sleepIters := 4294967295 } = true := by
  refine ⟨by decide, (configOK_iff _).2 ⟨by decide, by decide, List.length_replicate, rfl, ?_⟩⟩
  decide

theorem witness_LaunchCheckRefusesBadParameters :
    configOK { cfgA with len := 0, payload := [] } = false ∧
    configOK { cfgA with timerWidth := 33 } = false ∧
    configOK { cfgA with sleepIters := 4294967296 } = false := by decide

theorem witness_OnlyLoopBreakIsEnabledAtLaunch :
    configOK cfgA = true ∧
    after (step (State.launchWith cfgA [0x00])) (fun t => t.refused) = some false ∧
    after (step (State.launchWith cfgA [0x60])) (fun t => t.refused) = none ∧
    after (step (State.launchWith cfgA [0x08])) (fun t => t.refused) = some true := by decide

/-- W4: 88 µs and 8 µs are met at 1 MHz, 87 µs are not. -/
theorem witness_TimingPremisesAreNotChecked :
    0 < Config.atReset.tickHz ∧
    breakPremise { cfgA with tickHz := 1000000, breakTicks := 88 } = true ∧
    breakPremise { cfgA with tickHz := 1000000, breakTicks := 87 } = false ∧
    markPremise { cfgA with tickHz := 2000000, markTicks := 16 } = true ∧
    markPremise { cfgA with tickHz := 2000000, markTicks := 15 } = false ∧
    configOK { cfgA with tickHz := 1000000, breakTicks := 87 } = true ∧
    configOK { cfgA with tickHz := 2000000, markTicks := 15 } = true := by decide

theorem witness_StepRunsTheScheduledLabel :
    let s := State.launchWith cfgA [0x00, 0x60]
    Ready s ∧ s.schedule = [0x00, 0x60] ∧ decodeLabel 0x00 = .ok .loopBreak ∧
    Instr.loopBreak.schedulable = true ∧
    after (step s) (fun t => (t.fstate, t.schedule)) = some (.inBreak, [0x60]) := by decide

/-- V42 and V43: the ends of every refused range, as the next label of a schedule. -/
theorem witness_ReservedAndMicroLabelsAreRefused :
    Ready (State.launchWith cfgA [0xA0]) ∧
    ([0x08, 0x1F, 0x23, 0x3F, 0x41, 0x5F, 0x61, 0x7F, 0x81, 0x9F, 0xA0, 0xDF, 0xE0, 0xED, 0xEE,
      0xFF] : List Byte).all (fun b =>
        after (step (State.launchWith cfgA [b])) (fun t => t.refused) == some true) = true := by decide

theorem witness_GuardsDecideWhichLabelsStep :
    Ready launchA ∧ labelGuard .loopBreak launchA = true ∧ labelGuard .loopSending launchA = false ∧
    configOK { cfgA with fifoDepth := 0 } = false ∧
    ({ launchA with fcode := 4 } : State).fcode ≠ 0 ∧
    ({ launchA with refused := true } : State).refused = true := by decide

theorem witness_LoopAlwaysHasOneEnabledArm :
    Ready { launchA with fstate := .reserved, tpend := true, tie := true } ∧
    labelGuard .loopIllegal { launchA with fstate := .reserved } = true ∧
    labelGuard .tisrSpurious { launchA with fstate := .reserved, tpend := true, tie := true } = true := by
  decide

theorem witness_FaultKeepsNoOtherWriteAndIsFinal :
    exec .txisr { launchA with txeie := true } = .next { launchA with txeie := true, fcode := 3 } ∧
    ({ launchA with txeie := true, fcode := 3 } : State).fcode ≠ 0 := ⟨rfl, by decide⟩

/-- One ready state for each arm of LOOP: for LoopBreakPullsTheLineLowAndArms, PollsChangeNothing,
LoopMarkArmsTheMark, LoopBeginSendStartsTheFrame, LoopSendingWaitsForCompletion,
LoopSleepingSpinsThenBreaks and IllegalAndSpuriousArmsFault. -/
theorem witness_loop_arms :
    Ready launchA ∧ launchA.fstate = .break_ ∧
    (∀ f ∈ [FState.inBreak, .mark, .inMark, .beginSend, .sending, .sleeping, .reserved],
      Ready { launchA with fstate := f }) ∧
    ({ launchA with fstate := .sending, cflag := true } : State).cflag = true ∧
    ({ launchA with fstate := .sleeping, sleepCnt := 0xFFFFFFFF } : State).sleepCnt ≠ 0 := by decide

/-- One ready state for each arm of TIMER_ISR: for IllegalAndSpuriousArmsFault, TisrInBreakReleasesTheLine
and TisrInMarkMovesToBeginSend. -/
theorem witness_tisr_arms :
    (∀ f ∈ [FState.inBreak, .inMark, .sending, .reserved],
      Ready { launchA with fstate := f, tpend := true, tie := true }) ∧
    launchA.gie = true := by decide

/-- Each clause of TXISR's statement: bytes to push, none to push, and the transmitter disabled. -/
theorem witness_TxisrDrainsAndCompletes :
    Ready sendingA ∧ sendingA.txeie = true ∧ sendingA.gie = true ∧
    sendingA.fifo.length < sendingA.cfg.fifoDepth ∧ sendingA.endCur.toNat < sendingA.cfg.len ∧
    sendingA.txen = true ∧ burstCount sendingA = 2 ∧
    sendingA.endCur.toNat < ({ sendingA with nextCur := 4, txen := false } : State).nextCur.toNat ∧
    sendingA.nextCur.toNat ≤ ({ sendingA with txen := false } : State).endCur.toNat := by decide

/-- Each clause of BurstPushesWhatFits and TxStartPushesAndEnables. -/
theorem witness_BurstPushesWhatFits :
    Ready sendingA ∧ sendingA.endCur.toNat < sendingA.cfg.len ∧ sendingA.txen = true ∧
    burstCount { sendingA with txen := false, nextCur := 4 } = 0 ∧
    0 < burstCount { sendingA with txen := false } := by decide

/-- Each clause of BUF.TAKENEXT's statement, at the cursors where they meet. -/
theorem witness_BufTakeNextReturnsTheNextByte :
    Ready launchA ∧
    ({ launchA with nextCur := 3 } : State).nextCur.toNat ≤ launchA.endCur.toNat ∧
    launchA.cfg.payload[3]? = some 0x03 ∧
    launchA.endCur.toNat < ({ launchA with nextCur := 4 } : State).nextCur.toNat ∧
    ({ launchA with nextCur := 4, endCur := 4 } : State).nextCur.toNat ≤ 4 ∧
    launchA.cfg.len ≤ ({ launchA with nextCur := 4, endCur := 4 } : State).nextCur.toNat := by decide

theorem witness_DrainLaw :
    configOK cfgA = true ∧
    (takeMany 4 (bufReset launchA)).map (fun p => (p.1, hasMore p.2))
      = some ([0x00, 0x01, 0x02, 0x03], false) ∧
    (takeMany 5 (bufReset launchA)).isNone = true ∧
    hasMore { launchA with fstate := .beginSend, nextCur := 4 } = false ∧
    hasMore (next .loopBeginSend { launchA with fstate := .beginSend, nextCur := 4 }) = true := by decide

/-- Each clause, at the cursors, counts and FIFO lengths where they meet. -/
theorem witness_PrimitivesWithOperandsFollowTheirRules :
    configOK launchA.cfg = true ∧ launchA.endCur.toNat < launchA.cfg.len ∧
    launchA.endCur.toNat < ({ launchA with nextCur := 4 } : State).nextCur.toNat ∧
    ({ launchA with nextCur := 3 } : State).nextCur.toNat ≤ launchA.endCur.toNat ∧
    sendingA.txen = true ∧ burstCount { launchA with nextCur := 4 } = 0 ∧
    launchA.txen = false ∧ 0 < burstCount launchA ∧ 65535 ≤ 2 ^ launchA.cfg.timerWidth - 1 ∧
    ({ sendingA with fifo := [0x00] } : State).fifo.length < sendingA.cfg.fifoDepth ∧
    sendingA.cfg.fifoDepth ≤ ({ sendingA with fifo := [0x00, 0x01] } : State).fifo.length := by decide

theorem witness_TimerTickCountsAndExpires :
    Ready { launchA with tarmed := true, tcount := 2 } ∧
    1 < ({ launchA with tarmed := true, tcount := 2 } : State).tcount.toNat ∧
    ({ launchA with tarmed := true, tcount := 1 } : State).tcount.toNat = 1 := by decide

theorem witness_UartShiftSendsTheOldestByte :
    Ready { launchA with txen := true, fifo := [0x00] } ∧
    ({ launchA with txen := true, fifo := [0x00] } : State).fifo = 0x00 :: [] := by decide

/-- Each clause of TIMER.ARM's statement: 0, the largest count in range, and one beyond. -/
theorem witness_TimerArmLoadsAndEnables :
    Ready launchA ∧ launchA.args.ticks = 0 ∧ 65535 < 2 ^ launchA.cfg.timerWidth ∧
    ¬65536 < 2 ^ launchA.cfg.timerWidth := by decide

/-- Each clause of UART.PUSH's statement. -/
theorem witness_UartPushAppendsOrFaults :
    Ready { launchA with txen := true, fifo := [0x00] } ∧
    ({ launchA with txen := true, fifo := [0x00] } : State).fifo.length < launchA.cfg.fifoDepth ∧
    launchA.txen = false ∧
    launchA.cfg.fifoDepth ≤ ({ launchA with txen := true, fifo := [0x00, 0x01] } : State).fifo.length := by
  decide

/-- A ready state, all that BufResetRewindsTheCursors, BufHasMoreComparesTheCursors,
TimerStopClearsTheTimer, UartEnableDrivesTheLineHigh, UartDisableDiscardsTheFifo,
GpioSetsLineAndActivity and TxeieIsSetAndCleared ask for. -/
theorem witness_primitives : Ready launchA := by decide

theorem witness_ParametersAndGieAreNeverWritten :
    exec .bufReset launchA = .next launchA := rfl

theorem witness_TruncIsStickyAndWireOnlyGrows :
    let s : State := { launchA with txen := true, fifo := [0x02, 0x03] }
    exec .loopBreak s = .next (next .loopBreak s) ∧ (next .loopBreak s).trunc ≠ s.trunc ∧
    ({ s with trunc := true } : State).trunc = true := ⟨rfl, by decide, rfl⟩

/-- A change of FSTATE by each driver. -/
theorem witness_EachTransitionHasOneDriver :
    let s : State := { launchA with fstate := .inBreak, tpend := true, tie := true }
    Trans launchA .loopBreak (next .loopBreak launchA) ∧
    (next .loopBreak launchA).fstate ≠ launchA.fstate ∧
    Trans s .tisrInBreak (next .tisrInBreak s) ∧ (next .tisrInBreak s).fstate ≠ s.fstate :=
  ⟨⟨rfl, rfl⟩, by decide, ⟨rfl, rfl⟩, by decide⟩

/-- States that meet the invariants, one for each phase of a frame of CFG-A. -/
def inBreakA : State :=
  { launchA with fstate := .inBreak, lineGpio := false, tie := true, tarmed := true, tcount := 1 }
def expiredA : State :=
  { launchA with fstate := .inBreak, lineGpio := false, tie := true, tpend := true }
def beginA : State :=
  { launchA with fstate := .beginSend, tie := true, cflag := true, nextCur := 4 }
def doneA : State :=
  { launchA with fstate := .sending, txen := true, act := true, cflag := true, nextCur := 4,
                 fifo := [0x02, 0x03] }
def breakA : State := { launchA with txen := true, cflag := true, nextCur := 4, fifo := [0x03] }
def sleepA : State := { launchA with fstate := .sleeping, cflag := true, nextCur := 4, sleepCnt := 1 }

theorem witness_invariant_states :
    Invariants inBreakA ∧ Invariants expiredA ∧ Invariants beginA ∧ Invariants sendingA ∧ Invariants doneA ∧ Invariants breakA ∧ Invariants sleepA :=
  ⟨by decide, by decide, by decide, by decide, by decide, by decide, by decide⟩

/-- Each clause of the ownership table: a step from a state that meets the invariants which changes
what the clause is about. -/
theorem witness_EachRegisterHasOneWriter :
    (Trans sendingA .txisr (next .txisr sendingA) ∧ (next .txisr sendingA).fcode = 0 ∧
      sendingA.cflag = false ∧ (next .txisr sendingA).cflag = true ∧
      (next .txisr sendingA).nextCur ≠ sendingA.nextCur ∧
      sendingA.txeie = true ∧ (next .txisr sendingA).txeie = false ∧
      (next .txisr sendingA).fifo ≠ sendingA.fifo) ∧
    (Trans beginA .loopBeginSend (next .loopBeginSend beginA) ∧
      (next .loopBeginSend beginA).fcode = 0 ∧
      beginA.cflag = true ∧ (next .loopBeginSend beginA).cflag = false ∧
      beginA.txeie = false ∧ (next .loopBeginSend beginA).txeie = true ∧
      (next .loopBeginSend beginA).tie ≠ beginA.tie ∧
      (next .loopBeginSend beginA).txen ≠ beginA.txen ∧
      (next .loopBeginSend beginA).act ≠ beginA.act) ∧
    (Trans inBreakA .timerTick (next .timerTick inBreakA) ∧ (next .timerTick inBreakA).fcode = 0 ∧
      inBreakA.tpend = false ∧ (next .timerTick inBreakA).tpend = true ∧
      (next .timerTick inBreakA).tcount ≠ inBreakA.tcount) ∧
    (Trans expiredA .tisrInBreak (next .tisrInBreak expiredA) ∧
      (next .tisrInBreak expiredA).fcode = 0 ∧
      expiredA.tpend = true ∧ (next .tisrInBreak expiredA).tpend = false ∧
      (next .tisrInBreak expiredA).lineGpio ≠ expiredA.lineGpio ∧
      (next .tisrInBreak expiredA).fstate ≠ expiredA.fstate) ∧
    (Trans doneA .loopSending (next .loopSending doneA) ∧ (next .loopSending doneA).fcode = 0 ∧
      (next .loopSending doneA).sleepCnt ≠ doneA.sleepCnt) ∧
    Trans breakA .loopBreak (next .loopBreak breakA) ∧ (next .loopBreak breakA).fcode = 0 ∧
      (next .loopBreak breakA).fifo ≠ breakA.fifo :=
  ⟨⟨⟨rfl, rfl⟩, by decide⟩, ⟨⟨rfl, rfl⟩, by decide⟩, ⟨⟨rfl, rfl⟩, by decide⟩,
   ⟨⟨rfl, rfl⟩, by decide⟩, ⟨⟨rfl, rfl⟩, by decide⟩, ⟨rfl, rfl⟩, by decide⟩

theorem witness_InvariantsHoldAtLaunch : configOK cfgA = true ∧ configOK cfgOne = true := by decide

/-- Also for EveryStepKeepsTcountInItsWidth. -/
theorem witness_EveryStepKeepsTheInvariants :
    let s : State := { sendingA with schedule := [0x40] }
    Invariants s ∧ TcountFits s ∧ step s = .next { next .txisr sendingA with schedule := [] } :=
  ⟨by decide, by decide, rfl⟩

/-- A reachable state in which TXISR can step: two bytes, one FIFO place, the first byte sent. Also for
InterruptSourcesExclude. -/
theorem witness_NoFaultIsReachable :
    configOK cfgTwo = true ∧ Reachable cfgTwo (walk cfgTwo frameTwo 8) ∧
    txeIrq (walk cfgTwo frameTwo 8) = true := ⟨by decide, walk_reachable _ _ _, by decide⟩

theorem witness_SplitLaw :
    configOK cfgTwo = true ∧ Reachable cfgTwo (walk cfgTwo frameTwo 6) ∧
    (walk cfgTwo frameTwo 6).fstate = .beginSend ∧
    exec .loopBeginSend (walk cfgTwo frameTwo 6)
      = .next (next .loopBeginSend (walk cfgTwo frameTwo 6)) :=
  ⟨by decide, walk_reachable _ _ _, by decide, rfl⟩

theorem witness_CompletionLaw :
    configOK cfgTwo = true ∧ Reachable cfgTwo (walk cfgTwo frameTwo 8) ∧
    Trans (walk cfgTwo frameTwo 8) .txisr (next .txisr (walk cfgTwo frameTwo 8)) ∧
    (walk cfgTwo frameTwo 8).cflag = false ∧
    (next .txisr (walk cfgTwo frameTwo 8)).cflag = true :=
  ⟨by decide, walk_reachable _ _ _, ⟨rfl, rfl⟩, by decide, by decide⟩

/-- Both clauses: a full FIFO with bytes left, and an armed timer. -/
theorem witness_AStalledDeviceStallsTheLoop :
    let s : State := { State.launch cfgTwo with
      fstate := .sending, txen := true, txeie := true, act := true, fifo := [0x00], nextCur := 1 }
    (Invariants s ∧ Path s [.loopSending] s ∧ s.fstate = .sending ∧ s.cflag = false ∧
      Instr.uartShift ∉ [Instr.loopSending] ∧
      s.cfg.fifoDepth - s.fifo.length < s.endCur.toNat + 1 - s.nextCur.toNat) ∧
    Invariants inBreakA ∧ Path inBreakA [.loopInBreak] inBreakA ∧ inBreakA.fstate = .inBreak ∧
      inBreakA.tarmed = true ∧ Instr.timerTick ∉ [Instr.loopInBreak] :=
  ⟨⟨by decide, .cons ⟨rfl, rfl⟩ (.nil _), by decide⟩, by decide, .cons ⟨rfl, rfl⟩ (.nil _), by decide⟩

theorem witness_WireIsASequenceOfFrames :
    configOK cfgTwo = true ∧ Reachable cfgTwo (walk cfgTwo frameTwo 8) ∧
    (walk cfgTwo frameTwo 8).wire = [.brk, .mab, .byte 0x00] :=
  ⟨by decide, walk_reachable _ _ _, by decide⟩

theorem witness_BreakLastsItsTicks :
    let s := walk cfgTwo [] 0
    let t := next .loopBreak s
    let u := next .tisrInBreak (next .timerTick t)
    configOK cfgTwo = true ∧ Reachable cfgTwo s ∧ exec .loopBreak s = .next t ∧
    Path t [.timerTick, .tisrInBreak] u ∧ .mab ∈ u.wire.drop t.wire.length :=
  ⟨by decide, walk_reachable _ _ _, rfl, .cons ⟨rfl, rfl⟩ (.cons ⟨rfl, rfl⟩ (.nil _)), by decide⟩

theorem witness_MarkLastsItsTicks :
    let s := walk cfgTwo frameTwo 2
    let t := next .tisrInBreak s
    let t4 := next .loopBeginSend (next .tisrInMark (next .timerTick (next .loopMark t)))
    let u := next .uartShift t4
    configOK cfgTwo = true ∧ Reachable cfgTwo s ∧ exec .tisrInBreak s = .next t ∧
    Path t [.loopMark, .timerTick, .tisrInMark, .loopBeginSend, .uartShift] u ∧
    .byte 0x00 ∈ u.wire.drop t.wire.length :=
  ⟨by decide, walk_reachable _ _ _, rfl,
   .cons ⟨rfl, rfl⟩ (.cons ⟨rfl, rfl⟩ (.cons ⟨rfl, rfl⟩ (.cons ⟨rfl, rfl⟩ (.cons ⟨rfl, rfl⟩ (.nil _))))),
   by decide⟩

/- ### A fair run for ever, the witness of FairRunsCycleForever -/

/-- The label taken at phase `k` of a lap. -/
def lapLabel : Nat → Instr
  | 0 => .loopBreak
  | 1 => .timerTick
  | 2 => .tisrInBreak
  | 3 => .loopMark
  | 4 => .timerTick
  | 5 => .tisrInMark
  | 6 => .loopBeginSend
  | 7 => .uartShift
  | 8 => .txisr
  | 9 => .loopSending
  | _ => .loopSleeping

/-- The state at phase `k` of a lap: the first from launch, a later one from the end of a frame. -/
def lapState (later : Bool) : Nat → State
  | 0 =>
    if later then { State.launch cfgOne with cflag := true, nextCur := 1, txen := true }
    else State.launch cfgOne
  | k + 1 => next (lapLabel k) (lapState later k)

/-- One step of a lap, whatever stands on WIRE. -/
theorem lap_step (later : Bool) (k : Nat) (hk : k < 11) (w : List WireEvent) :
    ∃ w', exec (lapLabel k) { lapState later k with wire := w }
      = .next { lapState (later || k == 10) ((k + 1) % 11) with wire := w' } := by
  cases later <;>
    (iterate 11 (rcases k with _ | k; · first | exact ⟨_, rfl⟩ | exact ⟨w, by with_unfolding_all rfl⟩)) <;> omega

/-- The states of the run. -/
def fairAt : Nat → State
  | 0 => State.launch cfgOne
  | n + 1 => next (lapLabel (n % 11)) (fairAt n)

theorem fairAt_lap (n : Nat) : ∃ later w, fairAt n = { lapState later (n % 11) with wire := w } := by
  induction n with
  | zero => exact ⟨false, [], rfl⟩
  | succ n ih =>
    obtain ⟨later, w, h⟩ := ih
    obtain ⟨w', h'⟩ := lap_step later (n % 11) (Nat.mod_lt _ (by decide)) w
    refine ⟨later || n % 11 == 10, w', ?_⟩
    rw [fairAt, h, next, h', Nat.mod_add_mod]
    rfl

/-- An infinite run of CFG-One from launch. -/
def fairRun : Run cfgOne where
  at_ := fairAt
  label n := lapLabel (n % 11)
  start := rfl
  steps n := by
    refine ⟨?_, ?_⟩
    · unfold lapLabel
      split <;> rfl
    · obtain ⟨later, w, h⟩ := fairAt_lap n
      obtain ⟨w', h'⟩ := lap_step later (n % 11) (Nat.mod_lt _ (by decide)) w
      rw [fairAt, h, next, h']
      rfl

theorem witness_FairRunsCycleForever : configOK cfgOne = true ∧ fairRun.WeaklyFair := by
  refine ⟨by decide, fun a n h => ?_⟩
  have hit : ∀ k, k < 11 → ∃ m, n ≤ m ∧ fairRun.label m = lapLabel k := fun k hk =>
    ⟨11 * n + k, by omega, by simp [fairRun, Nat.mod_eq_of_lt hk]⟩
  cases a
  case micro =>
    obtain ⟨i, hi, hs, -⟩ := h n le_rfl
    simp [Instr.schedulable, hi] at hs
  all_goals
    first
    | (obtain ⟨m, hm, e⟩ := hit 0 (by decide); exact ⟨m, hm, by rw [e]; rfl⟩)
    | (obtain ⟨m, hm, e⟩ := hit 1 (by decide); exact ⟨m, hm, by rw [e]; rfl⟩)
    | (obtain ⟨m, hm, e⟩ := hit 2 (by decide); exact ⟨m, hm, by rw [e]; rfl⟩)
    | (obtain ⟨m, hm, e⟩ := hit 7 (by decide); exact ⟨m, hm, by rw [e]; rfl⟩)
    | (obtain ⟨m, hm, e⟩ := hit 8 (by decide); exact ⟨m, hm, by rw [e]; rfl⟩)

end Sys2Proof.Tests
end

section
/-! PROOFS. The launch check of spec 00_scope.md R15: what a launch that fails it is, and that it has
no step. -/

namespace Sys2Proof.Machine

/-- R203's REF_CONFIG goes before every other reason a state can stop for. -/
theorem whyStopped_of_not_configOK {s : State} (h : configOK s.cfg = false) :
    whyStopped s = .refConfig := by
  simp [whyStopped, h]

/-- A state whose parameters fail R15 is not live. -/
theorem not_live_of_not_configOK {s : State} (h : configOK s.cfg = false) : live s = false :=
  Bool.eq_false_iff.2 fun hl => Bool.eq_false_iff.1 h (configOK_of_live hl)

/-- A state that is not live takes no step, whatever its schedule names. -/
theorem step_not_live {s : State} (h : live s = false) : step s = .refused (whyStopped s) := by
  simp [step, advance, h]

/-- R15: under parameters that fail the check no step exists, from launch or later. -/
theorem step_of_not_configOK {s : State} (h : configOK s.cfg = false) :
    step s = .refused .refConfig := by
  rw [step_not_live (not_live_of_not_configOK h), whyStopped_of_not_configOK h]

/-- R203: a launch has REFUSED = 1 exactly where its parameters fail the check. -/
theorem launch_refused_iff (c : Config) :
    (State.launch c).refused = true ↔ configOK c = false := by
  simp [State.launch]

/-- Settles O11: the check is R15's conjunction (`configOK_iff`; that P_SLEEP_ITERS is at least 0 is
true of every natural number), and a launch that fails it is refused and has no step. -/
theorem launchCheckRefusesBadParameters : Obligations.LaunchCheckRefusesBadParameters := by
  unfold Obligations.LaunchCheckRefusesBadParameters
  intro c
  refine ⟨?_, launch_refused_iff c, fun h bs => ?_⟩
  · simpa only [Nat.zero_le, true_and] using configOK_iff c
  · exact step_of_not_configOK (s := State.launchWith c bs) h

end Sys2Proof.Machine
end

section
/-! PROOFS. The STATUS word (spec 10_state.md R42). -/

namespace Sys2Proof.Machine

/-- Bits 0 to 2 of the STATUS word are FSTATE's code: every other field lies above them. -/
theorem statusWord_fstate (s : State) : (statusWord s).extractLsb' 0 3 = fstateCode s.fstate := by
  ext n hn
  have hbit := statusWord_getLsbD s n (by omega)
  interval_cases n <;> simpa using hbit

/-- Bits 13 to 15 of the STATUS word are FCODE: FSTATE's code and the flags end below them. -/
theorem statusWord_fcode (s : State) : (statusWord s).extractLsb' 13 3 = s.fcode := by
  ext n hn
  have hbit := statusWord_getLsbD s (13 + n) (by omega)
  have hcode : (fstateCode s.fstate).getLsbD (13 + n) = false := BitVec.getLsbD_of_ge _ _ (by omega)
  rw [hcode] at hbit
  interval_cases n <;> simpa using hbit

/-- At launch LINE and GIE alone are 1, whatever the parameters. -/
theorem statusWord_launch (c : Config) : statusWord (State.launch c) = 0x0820 := by
  simp [statusWord, State.launch, fstateCode, bitAt, line]

/-- Settles O8: each flag is read off `statusWord_getLsbD` at its own bit, where FSTATE's code (3 bits)
and FCODE (from bit 13) contribute nothing; the launch word is `statusWord_launch`. -/
theorem statusWordLayout : Obligations.StatusWordLayout := by
  unfold Obligations.StatusWordLayout
  refine ⟨fun s => ?_, statusWord_launch⟩
  have hflag : ∀ n, 3 ≤ n → (fstateCode s.fstate).getLsbD n = false := fun n hn =>
    BitVec.getLsbD_of_ge _ _ hn
  refine ⟨statusWord_fstate s, ?_, ?_, ?_, ?_, ?_, ?_, ?_, ?_, ?_, ?_, statusWord_fcode s⟩ <;>
    rw [statusWord_getLsbD s _ (by decide), hflag _ (by decide)] <;> simp [line_eq]

end Sys2Proof.Machine
end

section
/-! PROOFS. The labels whose effect is no plain update, each as the update it makes when it ends well. -/

namespace Sys2Proof.Machine

/-- LOOP.BEGIN_SEND (R144) without an early end. -/
theorem effect_loopBeginSend_ok {s t : State} (h : effect .loopBeginSend s = .ok t) :
    ∃ fs n, t = { bufReset (uartEnable (timerStop s)) with
      cflag := false, act := true, fifo := s.fifo ++ fs, nextCur := n, txeie := true,
      fstate := .sending } := by
  simp only [effect] at h
  split at h
  · cases h
  · rename_i hstart
    obtain ⟨fs, n, rfl⟩ := txStart_frame hstart
    cases h
    exact ⟨fs, n, rfl⟩

/-- TXISR (R122) without an early end. -/
theorem effect_txisr_ok {s t : State} (h : effect .txisr s = .ok t) :
    ∃ fs n, t = completeIfDrained { s with fifo := s.fifo ++ fs, nextCur := n } := by
  simp only [effect] at h
  split at h
  · cases h
  · rename_i hburst
    obtain ⟨fs, n, rfl⟩ := txBurst_frame hburst
    cases h
    exact ⟨fs, n, rfl⟩

/-- BUF.TAKENEXT (R102) without an early end. -/
theorem effect_bufTakeNext_ok {s t : State} (h : effect .bufTakeNext s = .ok t) :
    ∃ b, t = { s with nextCur := s.nextCur + 1, ret := .byte b } := by
  rcases bufTakeNext_cases s with ⟨-, e⟩ | ⟨-, -, e⟩ | ⟨-, b, -, e⟩ <;>
    simp only [effect, e] at h <;> cases h
  exact ⟨b, rfl⟩

/-- TX.BURST (R120) without an early end. -/
theorem effect_txBurst_ok {s t : State} (h : effect .txBurst s = .ok t) :
    ∃ fs n k, t = { s with fifo := s.fifo ++ fs, nextCur := n, ret := .count k } := by
  simp only [effect] at h
  split at h
  · cases h
  · rename_i k u hburst
    obtain ⟨fs, n, rfl⟩ := txBurst_frame hburst
    cases h
    exact ⟨fs, n, k, rfl⟩

/-- UART.PUSH (R176) without an early end. -/
theorem effect_uartPush_ok {s t : State} (h : effect .uartPush s = .ok t) :
    t = { s with fifo := s.fifo ++ [s.args.byte] } := by
  rcases uartPush_cases s.args.byte s with ⟨-, e⟩ | ⟨-, -, e⟩ | ⟨-, -, e⟩ <;>
    simp only [effect, e] at h <;> cases h
  rfl

end Sys2Proof.Machine
end

section
/-! PROOFS. What no step writes and what only grows (spec 10_state.md R38, R39, R45; 60_exceptions.md
R206). -/

namespace Sys2Proof.Machine

/-- The labels in which UART.DISABLE runs: LOOP.BREAK (R140) and UART.DISABLE by itself (R174). -/
def disablesUart (i : Instr) : Bool := i == .loopBreak || i == .uartDisable

/-- What an effect that ends well does to the registers this section is about: the parameters (R45)
and GIE (R206) stay, WIRE gains events at its end, and TRUNC is set only by discarding bytes (R38). -/
theorem effect_keeps {i : Instr} {s t : State} (h : effect i s = .ok t) :
    t.cfg = s.cfg ∧ t.gie = s.gie ∧ s.wire <+: t.wire ∧
      t.trunc = (s.trunc || (disablesUart i && !s.fifo.isEmpty)) := by
  cases i
  case loopBeginSend => obtain ⟨fs, n, rfl⟩ := effect_loopBeginSend_ok h; simp [disablesUart]
  case txisr => obtain ⟨fs, n, rfl⟩ := effect_txisr_ok h; simp [disablesUart]
  case bufTakeNext => obtain ⟨b, rfl⟩ := effect_bufTakeNext_ok h; simp [disablesUart]
  case txBurst => obtain ⟨fs, n, k, rfl⟩ := effect_txBurst_ok h; simp [disablesUart]
  case txStart => obtain ⟨fs, n, rfl⟩ := txStart_frame h; simp [disablesUart]
  case uartPush => obtain rfl := effect_uartPush_ok h; simp [disablesUart]
  all_goals simp only [effect, Except.ok.injEq, reduceCtorEq] at h
  case loopSending => subst h; split <;> simp [disablesUart]
  case loopSleeping => subst h; split <;> simp [disablesUart]
  all_goals (subst h; simp [disablesUart])

/-- The same of a step that answers a next state: a fault changes nothing but FCODE (R201). -/
theorem exec_keeps {i : Instr} {s t : State} (h : exec i s = .next t) :
    t.cfg = s.cfg ∧ t.gie = s.gie ∧ s.wire <+: t.wire ∧
      (t.trunc = s.trunc ∨ t.trunc = true ∧ disablesUart i = true ∧ s.fifo ≠ []) := by
  obtain ⟨-, -, hok | ⟨c, -, rfl⟩⟩ := exec_next h
  · obtain ⟨hcfg, hgie, hwire, htrunc⟩ := effect_keeps hok
    refine ⟨hcfg, hgie, hwire, ?_⟩
    rw [htrunc]
    cases hd : disablesUart i <;> cases hf : s.fifo <;> simp
  · simp

/-- Settles O45: the parameters and GIE are kept (`exec_keeps`), and the payload is read from the
parameters alone. -/
theorem parametersAndGieAreNeverWritten : Obligations.ParametersAndGieAreNeverWritten := by
  unfold Obligations.ParametersAndGieAreNeverWritten
  intro i s t h
  obtain ⟨hcfg, hgie, -, -⟩ := exec_keeps h
  exact ⟨hcfg, hgie, fun a => by rw [hcfg]⟩

/-- UART.DISABLE on a FIFO that holds bytes discards them all and says so in TRUNC and on WIRE (R174);
it never raises a fault. -/
theorem disablesUart_discards {i : Instr} {s t : State} (h : exec i s = .next t)
    (hi : i = .loopBreak ∨ i = .uartDisable) (hf : s.fifo ≠ []) :
    t.trunc = true ∧ t.fifo = [] ∧ .trunc s.fifo.length ∈ t.wire := by
  obtain ⟨-, -, hend⟩ := exec_next h
  rcases hi with rfl | rfl <;>
    simp only [effect, Except.ok.injEq, reduceCtorEq, false_and, exists_false, or_false] at hend <;>
    subst hend <;> simp [hf]

/-- Settles O46: what a step does to WIRE and TRUNC is `exec_keeps`, and that a discard does set TRUNC
is `disablesUart_discards`. -/
theorem truncIsStickyAndWireOnlyGrows : Obligations.TruncIsStickyAndWireOnlyGrows := by
  unfold Obligations.TruncIsStickyAndWireOnlyGrows
  refine ⟨fun c => rfl, fun i s t h => ?_⟩
  obtain ⟨-, -, hwire, htrunc⟩ := exec_keeps h
  refine ⟨hwire, fun hset => ?_, disablesUart_discards h, fun hne => ?_⟩
  · rcases htrunc with heq | ⟨hone, -, -⟩
    · rw [heq, hset]
    · exact hone
  · rcases htrunc with heq | ⟨-, hi, hf⟩
    · exact absurd heq hne
    · exact ⟨by simpa [disablesUart] using hi, hf⟩

end Sys2Proof.Machine
end

section
/-! PROOFS. Which agent writes which register (spec 10_state.md R41). -/

namespace Sys2Proof.Machine

/-- The agents' steps that raise no fault, each with its whole next state. A step stands under the part
of its guard that R41 speaks of (`labelGuard` has the rest) and under the condition of its branch. -/
inductive CleanStep (s : State) : Instr → State → Prop where
  | loopBreak : s.fstate = .break_ → CleanStep s .loopBreak
      { timerArm s.cfg.breakTicks (gpioSetLine false (uartDisable s)) with fstate := .inBreak }
  | loopMark : s.fstate = .mark → CleanStep s .loopMark
      { timerArm s.cfg.markTicks s with fstate := .inMark }
  | loopBeginSend (fs : List Byte) (n : BitVec 16) : s.fstate = .beginSend →
      CleanStep s .loopBeginSend { bufReset (uartEnable (timerStop s)) with
        cflag := false, act := true, fifo := s.fifo ++ fs, nextCur := n, txeie := true,
        fstate := .sending }
  | sendingDone : s.fstate = .sending → s.cflag = true → CleanStep s .loopSending
      { gpioSetAct false s with sleepCnt := spinCount s.cfg, fstate := .sleeping }
  | spin : s.fstate = .sleeping → s.sleepCnt ≠ 0 → CleanStep s .loopSleeping
      { s with sleepCnt := s.sleepCnt - 1 }
  | wake : s.fstate = .sleeping → s.sleepCnt = 0 → CleanStep s .loopSleeping
      { s with fstate := .break_ }
  | pollBreak : s.fstate = .inBreak → CleanStep s .loopInBreak s
  | pollMark : s.fstate = .inMark → CleanStep s .loopInMark s
  | pollSending : s.fstate = .sending → s.cflag = false → CleanStep s .loopSending s
  | tisrInBreak : s.fstate = .inBreak → CleanStep s .tisrInBreak
      { gpioSetLine true { s with tpend := false } with fstate := .mark }
  | tisrInMark : s.fstate = .inMark → CleanStep s .tisrInMark
      { s with tpend := false, fstate := .beginSend }
  | txisr (fs : List Byte) (n : BitVec 16) : s.txeie = true → CleanStep s .txisr
      (completeIfDrained { s with fifo := s.fifo ++ fs, nextCur := n })
  | timerTick : CleanStep s .timerTick (timerTick s)
  | uartShift : CleanStep s .uartShift (uartShift s)

theorem faultNumber_ne_zero (c : FaultCode) : faultNumber c ≠ 0 := by cases c <;> decide

/-- A step that leaves FCODE at 0 is its label's effect: a raise would show in FCODE (R201). -/
theorem effect_ok_of_fcode_zero {i : Instr} {s t : State} (h : exec i s = .next t)
    (hf : t.fcode = 0) : labelGuard i s = true ∧ effect i s = .ok t := by
  obtain ⟨-, hg, hok | ⟨c, -, rfl⟩⟩ := exec_next h
  · exact ⟨hg, hok⟩
  · exact absurd hf (faultNumber_ne_zero c)

/-- Every step of an agent that leaves FCODE at 0 is one of `CleanStep`. -/
theorem Trans.cleanStep {i : Instr} {s t : State} (h : Trans s i t) (hf : t.fcode = 0) :
    CleanStep s i t := by
  obtain ⟨hsched, hexec⟩ := h
  obtain ⟨hg, hok⟩ := effect_ok_of_fcode_zero hexec hf
  cases i
  case loopBeginSend =>
    obtain ⟨fs, n, rfl⟩ := effect_loopBeginSend_ok hok
    exact .loopBeginSend fs n (by simpa [labelGuard] using hg)
  case txisr =>
    obtain ⟨fs, n, rfl⟩ := effect_txisr_ok hok
    have hreq : txeIrq s = true := hg
    simp only [txeIrq, Bool.and_eq_true] at hreq
    exact .txisr fs n hreq.1.1
  case bufReset | bufHasMore | bufTakeNext | txBurst | txStart | uartPush | uartEnable | uartDisable
      | timerArm | timerStop | gpioSetLine | gpioSetAct | txeieSet | txeieClear => cases hsched
  all_goals simp only [effect, Except.ok.injEq, reduceCtorEq] at hok
  all_goals simp only [labelGuard, beq_iff_eq, Bool.and_eq_true] at hg
  case loopSending =>
    subst hok
    split
    · exact .sendingDone hg ‹_›
    · exact .pollSending hg (Bool.eq_false_iff.2 ‹_›)
  case loopSleeping =>
    subst hok
    split
    · exact .wake hg ‹_›
    · exact .spin hg ‹_›
  all_goals subst hok
  case loopBreak => exact .loopBreak hg
  case loopInBreak => exact .pollBreak hg
  case loopMark => exact .loopMark hg
  case loopInMark => exact .pollMark hg
  case tisrInBreak => exact .tisrInBreak hg.2
  case tisrInMark => exact .tisrInMark hg.2
  case timerTick => exact .timerTick
  case uartShift => exact .uartShift

/-- Settles O48: each step of `CleanStep` by itself. Of R155's invariants only I5 is needed: at
BEGIN_SEND TXEIE is 0, so CFLAG is cleared only while its other writer is off. -/
theorem eachRegisterHasOneWriter : Obligations.EachRegisterHasOneWriter := by
  unfold Obligations.EachRegisterHasOneWriter
  intro s t i hinv htrans hf
  obtain ⟨-, -, -, -, htxeie, -⟩ := hinv
  cases htrans.cleanStep hf with
  | loopBreak hs => simp [hs, Instr.agent]
  | loopMark hs => simp [hs, Instr.agent]
  | loopBeginSend fs n hs =>
    have hoff : s.txeie = false := by
      cases he : s.txeie
      · rfl
      · simpa [hs] using (htxeie he).1
    simp [hs, hoff, Instr.agent]
  | sendingDone hs => simp [hs, Instr.agent]
  | spin hs => simp [hs, Instr.agent]
  | wake hs => simp [hs, Instr.agent]
  | pollBreak | pollMark | pollSending => simp +contextual
  | tisrInBreak hs => simp [hs, Instr.agent]
  | tisrInMark hs => simp [hs, Instr.agent]
  | txisr fs n he => simp +contextual [he, Instr.agent]
  | timerTick => simp +contextual [Instr.agent]
  | uartShift => simp [Instr.agent]

end Sys2Proof.Machine
end

section
/-! PROOFS. Step labels (spec 30_encoding.md R70 to R79): the fields of an encoding, and that decoding
and encoding are inverse to each other. -/

namespace Sys2Proof

/- ### A byte is its two fields (R70) -/

@[simp] theorem agentField_encode (i : Instr) : agentField (encode i) = i.agent.code :=
  BitVec.extractLsb'_append_eq_left

@[simp] theorem opField_encode (i : Instr) : opField (encode i) = i.op :=
  BitVec.extractLsb'_append_eq_right

theorem toNat_eq_fields (b : Byte) : b.toNat = 32 * (agentField b).toNat + (opField b).toNat := by
  simp only [agentField, opField, BitVec.extractLsb'_toNat, Nat.shiftRight_eq_div_pow]
  have := b.isLt
  omega

theorem encode_toNat (i : Instr) : (encode i).toNat = 32 * i.agent.code.toNat + i.op.toNat := by
  rw [toNat_eq_fields, agentField_encode, opField_encode]

/-- A byte encodes a label exactly if its fields are the label's. -/
theorem encode_eq_iff (i : Instr) (b : Byte) :
    encode i = b ↔ agentField b = i.agent.code ∧ opField b = i.op := by
  constructor
  · rintro rfl
    exact ⟨agentField_encode i, opField_encode i⟩
  · rintro ⟨hagent, hop⟩
    apply BitVec.eq_of_toNat_eq
    rw [encode_toNat, toNat_eq_fields b, hagent, hop]

/- ### The agents and their OPs (R71 to R77) -/

/-- How many OPs the agent's rule lists: they are 0 to one less than this (R72 to R77). -/
def Agent.opCount : Agent → Nat
  | .loop => 8
  | .timerIsr => 3
  | .txeIsr => 1
  | .timer => 1
  | .uart => 1
  | .micro => 14

theorem Instr.op_lt_opCount (i : Instr) : i.op.toNat < i.agent.opCount := by cases i <;> decide

theorem Agent.code_le_four_iff (a : Agent) : a.code.toNat ≤ 4 ↔ a ≠ .micro := by
  cases a <;> decide

theorem Instr.schedulable_iff (i : Instr) : i.schedulable = true ↔ i.agent ≠ .micro := by
  simp [Instr.schedulable]

/- ### Decoding and encoding are inverse (R79) -/

/-- The label map of R72 to R77, row by row. -/
@[simp] theorem decodeLabel_encode (i : Instr) : decodeLabel (encode i) = .ok i := by cases i <;> rfl

/-- The label map has no row but a label's own fields. -/
theorem encode_of_decodeLabel {b : Byte} {i : Instr} (h : decodeLabel b = .ok i) : encode i = b := by
  rw [encode_eq_iff]
  unfold decodeLabel at h
  split at h <;> cases h
  all_goals
    rename_i hagent hop
    exact ⟨BitVec.eq_of_toNat_eq hagent, BitVec.eq_of_toNat_eq hop⟩

theorem readLabel_encode (i : Instr) :
    readLabel (encode i) = if i.schedulable then .schedulable i else .micro i := by
  simp [readLabel]

/-- A byte that encodes no label reads as reserved (R78). -/
theorem readLabel_of_ne_encode {b : Byte} (h : ∀ i, encode i ≠ b) : readLabel b = .reserved := by
  cases hdec : decodeLabel b with
  | ok i => exact absurd (encode_of_decodeLabel hdec) (h i)
  | error e => simp [readLabel, hdec]

/-- Settles O3: a byte is the encoding of a label, whose agent says which reading it has, or of none. -/
theorem everyByteHasOneReading : Obligations.EveryByteHasOneReading := by
  unfold Obligations.EveryByteHasOneReading
  intro b
  by_cases hlabel : ∃ i, encode i = b
  · obtain ⟨i, rfl⟩ := hlabel
    cases hs : i.schedulable
    · exact .inr (.inl ⟨i, hs, rfl, by simp [readLabel_encode, hs]⟩)
    · exact .inl ⟨i, hs, rfl, by simp [readLabel_encode, hs]⟩
  · have hnone : ∀ i, encode i ≠ b := not_exists.1 hlabel
    exact .inr (.inr ⟨hnone, readLabel_of_ne_encode hnone⟩)

/- ### The label map as the spec tables it -/

/-- AGENT 5 and 6 are reserved whatever OP is (R71, R78). -/
theorem decodeLabel_reservedAgent {b : Byte} (h : agentField b = 5 ∨ agentField b = 6) :
    decodeLabel b = .error .reservedAgent := by
  rcases h with h | h <;> simp [decodeLabel, h]

/-- Settles O2: the fields of an encoding, and that only MICRO has a code above 4. -/
theorem labelIsAgentAndOp : Obligations.LabelIsAgentAndOp := by
  unfold Obligations.LabelIsAgentAndOp
  refine ⟨fun i => ⟨agentField_encode i, opField_encode i, ?_⟩, rfl, rfl, rfl, rfl, rfl, rfl,
    fun b => decodeLabel_reservedAgent⟩
  rw [agentField_encode, Agent.code_le_four_iff, Instr.schedulable_iff]

/-- The MICRO labels are the bytes 0xE0 to 0xED (R77). -/
theorem not_schedulable_iff (i : Instr) :
    i.schedulable = false ↔ 0xE0 ≤ (encode i).toNat ∧ (encode i).toNat ≤ 0xED := by
  have hop := i.op_lt_opCount
  rw [← Bool.not_eq_true, Instr.schedulable_iff, encode_toNat]
  cases hagent : i.agent <;> simp [hagent, Agent.code, Agent.opCount] at hop ⊢ <;> omega

/-- Each byte above its agent's last OP encodes no label (R72 to R77). -/
theorem ne_encode_of_reserved_range {b : Byte}
    (h : 0x08 ≤ b.toNat ∧ b.toNat ≤ 0x1F ∨ 0x23 ≤ b.toNat ∧ b.toNat ≤ 0x3F ∨
      0x41 ≤ b.toNat ∧ b.toNat ≤ 0x5F ∨ 0x61 ≤ b.toNat ∧ b.toNat ≤ 0x7F ∨
      0x81 ≤ b.toNat ∧ b.toNat ≤ 0x9F ∨ 0xEE ≤ b.toNat) (i : Instr) : encode i ≠ b := by
  rintro rfl
  have hop := i.op_lt_opCount
  rw [encode_toNat] at h
  cases hagent : i.agent <;> simp [hagent, Agent.code, Agent.opCount] at hop h <;> omega

/-- Settles O1: the rows are `decodeLabel_encode` at each label; a reserved range begins where its
agent's OPs end. -/
theorem labelMapIsAsTabled : Obligations.LabelMapIsAsTabled := by
  unfold Obligations.LabelMapIsAsTabled
  refine ⟨⟨decodeLabel_encode .loopBreak, decodeLabel_encode .loopInBreak,
      decodeLabel_encode .loopMark, decodeLabel_encode .loopInMark,
      decodeLabel_encode .loopBeginSend, decodeLabel_encode .loopSending,
      decodeLabel_encode .loopSleeping, decodeLabel_encode .loopIllegal⟩,
    ⟨decodeLabel_encode .tisrInBreak, decodeLabel_encode .tisrInMark,
      decodeLabel_encode .tisrSpurious, decodeLabel_encode .txisr,
      decodeLabel_encode .timerTick, decodeLabel_encode .uartShift⟩,
    ⟨decodeLabel_encode .bufReset, decodeLabel_encode .bufHasMore,
      decodeLabel_encode .bufTakeNext, decodeLabel_encode .txBurst,
      decodeLabel_encode .txStart, decodeLabel_encode .uartPush,
      decodeLabel_encode .uartEnable, decodeLabel_encode .uartDisable,
      decodeLabel_encode .timerArm, decodeLabel_encode .timerStop,
      decodeLabel_encode .gpioSetLine, decodeLabel_encode .gpioSetAct,
      decodeLabel_encode .txeieSet, decodeLabel_encode .txeieClear⟩,
    not_schedulable_iff, fun b hb => readLabel_of_ne_encode (ne_encode_of_reserved_range hb)⟩

end Sys2Proof
end

section
/-! PROOFS. The codes of FSTATE and the words of the wire events (spec 30_encoding.md R81, R82). -/

namespace Sys2Proof.Machine

@[simp] theorem fstateOfCode_fstateCode (f : FState) : fstateOfCode (fstateCode f) = f := by
  cases f <;> rfl

/-- Each of the eight codes stands for the state that has it. -/
@[simp] theorem fstateCode_fstateOfCode : ∀ c : BitVec 3, fstateCode (fstateOfCode c) = c := by
  decide

/-- Settles O6: the codes as R81 lists them; code and state are inverse to each other. -/
theorem frameStateCodes : Obligations.FrameStateCodes := by
  unfold Obligations.FrameStateCodes
  exact ⟨rfl, rfl, rfl, rfl, rfl, rfl, rfl, rfl, fstateOfCode_fstateCode, fstateCode_fstateOfCode⟩

theorem wireWord_byte_toNat (b : Byte) : (wireWord (.byte b)).toNat = 0x0300 + b.toNat :=
  kindData_toNat 0x03 b

/-- A TRUNC word holds every count that fits its DATA. -/
theorem wireWord_trunc_toNat {n : Nat} (h : n ≤ 255) :
    (wireWord (.trunc n)).toNat = 0x0400 + n := by
  rw [wireWord, kindData_toNat, BitVec.toNat_ofNat, Nat.mod_eq_of_lt (by omega)]
  rfl

/-- Reading back the word of an event that has one: BRK, MAB, BYTE, and TRUNC of 1 to 255. -/
theorem wireOfWord_wireWord {e : WireEvent} (h : ∀ n, e = .trunc n → 1 ≤ n ∧ n ≤ 255) :
    wireOfWord (wireWord e) = some e := by
  cases e with
  | brk => rfl
  | mab => rfl
  | byte b => simp [wireOfWord, wireWord]
  | trunc n =>
    obtain ⟨hpos, hle⟩ := h n rfl
    have hdata : (BitVec.ofNat 8 n).toNat = n := Nat.mod_eq_of_lt (by omega)
    have hne : BitVec.ofNat 8 n ≠ 0#8 := fun hzero => by
      rw [hzero] at hdata
      exact absurd hpos (by simp [← hdata])
    simp [wireOfWord, wireWord, hne, hdata]

/-- A word that stands for an event is that event's word: KIND chooses the event, DATA is its data. -/
theorem wireWord_of_wireOfWord {w : BitVec 16} {e : WireEvent} (h : wireOfWord w = some e) :
    wireWord e = w := by
  rw [← kindData_extract w]
  unfold wireOfWord at h
  generalize w.extractLsb' 8 8 = kind at h ⊢
  generalize w.extractLsb' 0 8 = data at h ⊢
  dsimp only at h
  split at h
  case h_1 hk =>
    obtain rfl : kind = 0x01 := BitVec.eq_of_toNat_eq hk
    obtain ⟨rfl, rfl⟩ : data = 0 ∧ .brk = e := by simpa using h
    rfl
  case h_2 hk =>
    obtain rfl : kind = 0x02 := BitVec.eq_of_toNat_eq hk
    obtain ⟨rfl, rfl⟩ : data = 0 ∧ .mab = e := by simpa using h
    rfl
  case h_3 hk =>
    obtain rfl : kind = 0x03 := BitVec.eq_of_toNat_eq hk
    cases h
    rfl
  case h_4 hk =>
    obtain rfl : kind = 0x04 := BitVec.eq_of_toNat_eq hk
    obtain ⟨-, rfl⟩ : data ≠ 0 ∧ .trunc data.toNat = e := by simpa using h
    simp [wireWord]
  case h_5 => cases h

/-- Settles O7: the words by `kindData_toNat`; `wireWord` and `wireOfWord` are inverse to each other
(`wireOfWord_wireWord`, `wireWord_of_wireOfWord`). -/
theorem wireEventWords : Obligations.WireEventWords := by
  unfold Obligations.WireEventWords
  exact ⟨rfl, rfl, wireWord_byte_toNat, fun n _ hle => wireWord_trunc_toNat hle,
    fun e => wireOfWord_wireWord, fun w e => wireWord_of_wireOfWord⟩

end Sys2Proof.Machine
end

section
/-! PROOFS. The pseudo-instructions (spec 30_encoding.md R86). -/

namespace Sys2Proof.Machine

theorem loopLabel_agent (f : FState) : (loopLabel f).agent = .loop := by cases f <;> rfl

/-- The OP of LOOP.s is the code of s (R72, R81). -/
theorem encode_loopLabel_toNat (f : FState) :
    (encode (loopLabel f)).toNat = (fstateCode f).toNat := by
  cases f <;> rfl

theorem tisrLabel_eq (f : FState) : tisrLabel f =
    if f = .inBreak then .tisrInBreak else if f = .inMark then .tisrInMark else .tisrSpurious := by
  cases f <;> rfl

/-- A line whose labels all take their steps reaches the state its path ends in. -/
theorem reach_of_path {s t : State} {is : List Instr} (h : Path s is t) : reach s is = t := by
  induction h with
  | nil s => rfl
  | cons hstep _ ih => simp only [reach, hstep.2, ih]

/-- Settles O9: the expansions are `expand`'s own; a line that is taken in full hands the state its
path ends in to the lines after it (`reach_of_path`). -/
theorem pseudoInstructionsExpand : Obligations.PseudoInstructionsExpand := by
  unfold Obligations.PseudoInstructionsExpand
  refine ⟨fun s => ⟨loopLabel s.fstate, rfl, loopLabel_agent _, encode_loopLabel_toNat _⟩,
    fun s => ?_, fun s n => ⟨rfl, rfl, rfl, ?_, ?_, ?_⟩, fun s t p ps hpath => ?_⟩
  · rw [expand, tisrLabel_eq]
  · exact decide_eq_true_iff
  · exact decide_eq_true_iff
  · exact decide_eq_true_iff
  · rw [assemble, reach_of_path hpath]

end Sys2Proof.Machine
end

section
/-! PROOFS. The Transmit Buffer (spec 40_transmit_buffer.md R100 to R102) and the primitives that take
an operand or return a value (43_collaborators.md R170 to R179), each as its rule states it. -/

namespace Sys2Proof.Machine

/- ### BUF.RESET and BUF.TAKENEXT -/

/-- BUF.RESET has no guard: in a live state it always takes its step (R71, R100). -/
theorem exec_bufReset {s : State} (hl : live s = true) : exec .bufReset s = .next (bufReset s) := by
  rw [exec_enabled hl rfl, effect, finish_ok]

/-- Settles O31: the step is `bufReset` itself, and P_LEN - 1 fits END because P_LEN is at most 513. -/
theorem bufResetRewindsTheCursors : Obligations.BufResetRewindsTheCursors := by
  unfold Obligations.BufResetRewindsTheCursors
  exact ⟨rfl, fun s hc hf hr => ⟨exec_bufReset (live_of s hc hf hr), lastIndex_toNat hc⟩⟩

/-- Past END nothing is left to take (R102). -/
theorem bufTakeNext_underrun {s : State} (h : s.endCur.toNat < s.nextCur.toNat) :
    bufTakeNext s = .error (.code .bufUnderrun) := by
  have hm : ¬hasMore s = true := fun hm => absurd ((hasMore_iff s).1 hm) (by omega)
  rw [bufTakeNext, if_neg hm]

/-- Up to END, which lies inside the payload, the byte at NEXT is taken (R102). -/
theorem bufTakeNext_takes {s : State} (hc : configOK s.cfg = true) (he : s.endCur.toNat < s.cfg.len)
    (h : s.nextCur.toNat ≤ s.endCur.toNat) :
    ∃ b, s.cfg.payload[s.nextCur.toNat]? = some b ∧
      bufTakeNext s = .ok (b, { s with nextCur := BitVec.ofNat 16 (s.nextCur.toNat + 1) }) := by
  obtain ⟨b, hb, hread⟩ := memRead_of_lt hc (Nat.lt_of_le_of_lt h he)
  have hnext : BitVec.ofNat 16 (s.nextCur.toNat + 1) = s.nextCur + 1 := by simp [BitVec.ofNat_add]
  exact ⟨b, hb, by simp [bufTakeNext, (hasMore_iff s).2 h, hread, hnext]⟩

/- ### The primitives of the collaborators -/

/-- TIMER.ARM(N) with N in R170's range. -/
theorem timerArm_of_le {s : State} {n : Nat} (h : n ≤ 2 ^ s.cfg.timerWidth - 1) :
    timerArm n s = { s with
      tcount := BitVec.ofNat 32 n, tarmed := true, tpend := false, tie := true } := by
  have hpos := Nat.two_pow_pos s.cfg.timerWidth
  rw [timerArm, timerLoad_of_lt (by omega)]

/-- Every N in R170's range fits TCOUNT's container. -/
theorem toNat_ofNat_of_le_timerWidth {c : Config} (hc : configOK c = true) {n : Nat}
    (h : n ≤ 2 ^ c.timerWidth - 1) : (BitVec.ofNat 32 n).toNat = n := by
  have hpos := Nat.two_pow_pos c.timerWidth
  have hwidth := pow_timerWidth_le hc
  rw [BitVec.toNat_ofNat, Nat.mod_eq_of_lt (by omega)]

/-- UART.PUSH's TXEN check comes before its room check (R176, R202). -/
theorem uartPush_disabled (b : Byte) {s : State} (ht : s.txen = false) :
    uartPush b s = .error (.code .pushWhileDisabled) := by
  simp [uartPush, ht]

theorem uartPush_overflow (b : Byte) {s : State} (ht : s.txen = true)
    (hfull : s.cfg.fifoDepth ≤ s.fifo.length) : uartPush b s = .error (.code .fifoOverflow) := by
  have hroom : ¬uartRoom s = true := fun hroom => absurd ((uartRoom_iff s).1 hroom) (by omega)
  simp [uartPush, ht, hroom]

theorem uartPush_appends (b : Byte) {s : State} (ht : s.txen = true)
    (hroom : s.fifo.length < s.cfg.fifoDepth) :
    uartPush b s = .ok { s with fifo := s.fifo ++ [b] } := by
  simp [uartPush, ht, (uartRoom_iff s).2 hroom]

/-- The events of GPIO.SET_LINE(v): while the transmitter drives the line, none (R29, R178, R180). -/
theorem gpioSetLine_edgeEvents (v : Bool) (s : State) :
    edgeEvents (line s) (if s.txen then true else v) =
      if s.txen = true then []
      else if s.lineGpio = true ∧ v = false then [.brk]
      else if s.lineGpio = false ∧ v = true then [.mab] else [] := by
  cases ht : s.txen
  case true => simp [line, ht]
  case false => cases hl : s.lineGpio <;> cases v <;> simp [line, ht, hl]

/-- GPIO.SET_LINE(v) as a whole-state update (R178). -/
theorem gpioSetLine_eq (v : Bool) (s : State) : gpioSetLine v s = { s with
    lineGpio := v,
    wire := s.wire ++
      (if s.txen = true then []
       else if s.lineGpio = true ∧ v = false then [.brk]
       else if s.lineGpio = false ∧ v = true then [.mab] else []) } := by
  rw [← gpioSetLine_edgeEvents]
  rfl

/-- Settles O35: one lemma per primitive; TX.BURST is the model's `txBurst_eq` and `txBurst_disabled`. -/
theorem primitivesWithOperandsFollowTheirRules :
    Obligations.PrimitivesWithOperandsFollowTheirRules := by
  unfold Obligations.PrimitivesWithOperandsFollowTheirRules
  exact ⟨uartRoom_iff, hasMore_iff,
    fun _ hc he => ⟨bufTakeNext_underrun, bufTakeNext_takes hc he, txBurst_eq hc he,
      txBurst_disabled hc he⟩,
    fun _ _ hc _ hn => ⟨timerArm_of_le hn, toNat_ofNat_of_le_timerWidth hc hn⟩,
    fun _ b => ⟨uartPush_disabled b, uartPush_overflow b, uartPush_appends b⟩,
    fun s v => ⟨gpioSetLine_eq v s, rfl⟩,
    rfl, rfl, rfl, rfl, rfl⟩

end Sys2Proof.Machine
end

section
/-! PROOFS. The Byte Stream Transmitter (spec 41_byte_stream_transmitter.md R120 to R122): what is left
after a burst, then TX.START and TXISR. -/

namespace Sys2Proof.Machine

/-- An enabled label whose effect raises a fault writes its code to FCODE and nothing else (R201). -/
theorem exec_raises {i : Instr} {s : State} {c : FaultCode} (hl : live s = true)
    (hg : labelGuard i s = true) (h : effect i s = .error (.code c)) :
    exec i s = .next { s with fcode := faultNumber c } := by
  rw [exec_enabled hl hg, h, finish_raise, raiseFault]

/- ### The burst's count and the cursor after it -/

/-- A burst pushes something exactly where FIFO has room and the buffer has bytes left (R120). -/
theorem burstCount_pos_iff (s : State) :
    0 < burstCount s ↔ s.fifo.length < s.cfg.fifoDepth ∧ s.nextCur.toNat ≤ s.endCur.toNat := by
  unfold burstCount
  omega

/-- With END inside the payload, NEXT after a burst fits its 16 bits. -/
theorem nextCur_add_burstCount_toNat {s : State} (hc : configOK s.cfg = true)
    (he : s.endCur.toNat < s.cfg.len) :
    (BitVec.ofNat 16 (s.nextCur.toNat + burstCount s)).toNat = s.nextCur.toNat + burstCount s := by
  obtain ⟨-, hlen, -⟩ := (configOK_iff s.cfg).1 hc
  have hnext := s.nextCur.isLt
  rw [BitVec.toNat_ofNat]
  refine Nat.mod_eq_of_lt ?_
  unfold burstCount
  omega

/- ### TX.START -/

/-- Settles O30: TX.START has no guard, so the step is `txStart_eq`, or the fault of
`txStart_disabled`. -/
theorem txStartPushesAndEnables : Obligations.TxStartPushesAndEnables := by
  unfold Obligations.TxStartPushesAndEnables
  refine ⟨rfl, fun s hc hf hr he => ?_⟩
  have hl := live_of s hc hf hr
  refine ⟨fun ht => ?_,
    fun ht hpos => exec_raises (i := .txStart) hl rfl (txStart_disabled hc he ht hpos)⟩
  rw [exec_enabled hl rfl, effect, txStart_eq hc he ht, finish_ok]

/- ### TXISR -/

theorem txeIrq_iff (s : State) : txeIrq s = true ↔
    s.txeie = true ∧ s.gie = true ∧ s.fifo.length < s.cfg.fifoDepth := by
  simp [txeIrq, uartRoom_iff, and_assoc]

/-- TXISR over an enabled transmitter, or with nothing to push: its burst, then the completion. -/
theorem effect_txisr_eq {s : State} (hc : configOK s.cfg = true) (he : s.endCur.toNat < s.cfg.len)
    (ht : s.txen = true ∨ burstCount s = 0) :
    effect .txisr s = .ok { s with
      fifo := s.fifo ++ (s.cfg.payload.drop s.nextCur.toNat).take (burstCount s),
      nextCur := BitVec.ofNat 16 (s.nextCur.toNat + burstCount s),
      cflag := s.cflag || decide (s.endCur.toNat < s.nextCur.toNat + burstCount s),
      txeie := s.txeie && decide (s.nextCur.toNat + burstCount s ≤ s.endCur.toNat) } := by
  have hnext := nextCur_add_burstCount_toNat hc he
  simp only [effect, txBurst_eq hc he ht, completeIfDrained_eq, hasMore, hnext, ← decide_not,
    Nat.not_le]

theorem effect_txisr_disabled {s : State} (hc : configOK s.cfg = true)
    (he : s.endCur.toNat < s.cfg.len) (ht : s.txen = false) (h : 0 < burstCount s) :
    effect .txisr s = .error (.code .pushWhileDisabled) := by
  simp only [effect, txBurst_disabled hc he ht h]

/-- Settles O28: the premises are the request of R205, so the step is `effect_txisr_eq`, or the fault
of `effect_txisr_disabled`; as FIFO has room, a byte is pushed exactly where one is left. -/
theorem txisrDrainsAndCompletes : Obligations.TxisrDrainsAndCompletes := by
  unfold Obligations.TxisrDrainsAndCompletes
  refine ⟨rfl, fun s hc hf hr htxeie hgie hroom he => ?_⟩
  have hl := live_of s hc hf hr
  have hirq : labelGuard .txisr s = true := (txeIrq_iff s).2 ⟨htxeie, hgie, hroom⟩
  have hpos := burstCount_pos_iff s
  refine ⟨fun h => ?_, fun ht hleft =>
    exec_raises hl hirq (effect_txisr_disabled hc he ht (hpos.2 ⟨hroom, hleft⟩))⟩
  have ht : s.txen = true ∨ burstCount s = 0 := h.imp_right fun hdrained => by omega
  rw [exec_enabled hl hirq, effect_txisr_eq hc he ht, finish_ok, htxeie, Bool.true_and]

end Sys2Proof.Machine
end

section
/-! PROOFS. The LOOP and TIMER_ISR arms of the Frame Timing Controller (spec
42_frame_timing_controller.md R140 to R150), each as the update its rule states, and the owner of each
transition of FSTATE (R151). -/

namespace Sys2Proof.Machine

/-- An enabled label whose effect ends well takes the step to that state (R80). -/
theorem exec_updates {i : Instr} {s t : State} (hl : live s = true) (hg : labelGuard i s = true)
    (h : effect i s = .ok t) : exec i s = .next t := by
  rw [exec_enabled hl hg, h, finish_ok]

/-- The LOOP label of FSTATE's value has its guard (R72, R80). -/
theorem labelGuard_loopLabel {s : State} {f : FState} (hs : s.fstate = f) :
    labelGuard (loopLabel f) s = true := by
  cases f <;> simp [labelGuard, loopLabel, hs]

theorem timerIrq_iff (s : State) :
    timerIrq s = true ↔ s.tpend = true ∧ s.tie = true ∧ s.gie = true := by
  simp [timerIrq, and_assoc]

/-- A line that is left high, from whatever level, rose only if it was low (R29, R180). -/
theorem edgeEvents_line_true (s : State) :
    edgeEvents (line s) true = if s.txen = true ∨ s.lineGpio = true then [] else [.mab] := by
  rw [line_eq]
  cases s.txen <;> cases s.lineGpio <;> rfl

/- ### The two arms that arm the timer -/

/-- Disabling the transmitter, then pulling the line low: of the two edges at most one is an event,
BRK, exactly where the line was high (R29, R174, R178). -/
theorem edgeEvents_disable_pull (s : State) :
    edgeEvents (line s) s.lineGpio ++ edgeEvents s.lineGpio false =
      if s.txen = true ∨ s.lineGpio = true then [.brk] else [] := by
  rw [line_eq]
  cases s.txen <;> cases s.lineGpio <;> rfl

/-- UART.DISABLE, then GPIO.SET_LINE(0): what LOOP.BREAK does to the line (R140). -/
theorem gpioSetLine_false_uartDisable (s : State) : gpioSetLine false (uartDisable s) = { s with
    txen := false, lineGpio := false, fifo := [],
    trunc := s.trunc || !s.fifo.isEmpty,
    wire := s.wire ++ (if s.fifo = [] then [] else [.trunc s.fifo.length])
      ++ (if s.txen = true ∨ s.lineGpio = true then [.brk] else []) } := by
  rw [← edgeEvents_disable_pull, uartDisable_eq, ← List.append_assoc]
  rfl

/-- Settles O19: the line's part is `gpioSetLine_false_uartDisable`, and P_BREAK_TICKS fits the timer
because R15 says so. -/
theorem loopBreakPullsTheLineLowAndArms : Obligations.LoopBreakPullsTheLineLowAndArms := by
  unfold Obligations.LoopBreakPullsTheLineLowAndArms
  refine ⟨rfl, fun s hc hf hr hs => exec_updates (live_of s hc hf hr) (labelGuard_loopLabel hs) ?_⟩
  rw [effect, gpioSetLine_false_uartDisable, timerArm, breakTicks_load hc]

/-- Settles O21: P_MARK_TICKS fits the timer because R15 says so. -/
theorem loopMarkArmsTheMark : Obligations.LoopMarkArmsTheMark := by
  unfold Obligations.LoopMarkArmsTheMark
  refine ⟨rfl, fun s hc hf hr hs => exec_updates (live_of s hc hf hr) (labelGuard_loopLabel hs) ?_⟩
  rw [effect, timerArm, markTicks_load hc]

/- ### Polls -/

/-- A step that leads back to its own state may be taken any number of times (R255). -/
theorem path_replicate_of_trans_self {i : Instr} {s : State} (h : Trans s i s) (n : Nat) :
    Path s (List.replicate n i) s := by
  induction n with
  | zero => exact .nil s
  | succ n ih => exact .cons h ih

/-- A label that changes nothing where it is enabled is a poll: one step or many lead nowhere else. -/
theorem poll {i : Instr} {s : State} (hi : i.schedulable = true) (hl : live s = true)
    (hg : labelGuard i s = true) (h : effect i s = .ok s) :
    exec i s = .next s ∧ ∀ n, Path s (List.replicate n i) s :=
  have hstep := exec_updates hl hg h
  ⟨hstep, path_replicate_of_trans_self ⟨hi, hstep⟩⟩

theorem effect_loopSending_wait {s : State} (h : s.cflag = false) :
    effect .loopSending s = .ok s := by
  simp [effect, h]

/-- Settles O20: each of the three is a `poll`. -/
theorem pollsChangeNothing : Obligations.PollsChangeNothing := by
  unfold Obligations.PollsChangeNothing
  refine ⟨rfl, rfl, fun s hc hf hr => ?_⟩
  have hl := live_of s hc hf hr
  exact ⟨fun hs => poll rfl hl (labelGuard_loopLabel hs) rfl,
    fun hs => poll rfl hl (labelGuard_loopLabel hs) rfl,
    fun hs hw => poll rfl hl (labelGuard_loopLabel hs) (effect_loopSending_wait hw)⟩

/-- Settles O23: with CFLAG = 1 the arm leaves SENDING, with CFLAG = 0 it is the poll of
`effect_loopSending_wait`. -/
theorem loopSendingWaitsForCompletion : Obligations.LoopSendingWaitsForCompletion := by
  unfold Obligations.LoopSendingWaitsForCompletion
  refine ⟨rfl, fun s hc hf hr hs => ?_⟩
  have hl := live_of s hc hf hr
  have hg : labelGuard .loopSending s = true := labelGuard_loopLabel hs
  refine ⟨fun hdone => exec_updates hl hg ?_,
    fun hwait => exec_updates hl hg (effect_loopSending_wait hwait)⟩
  rw [effect, if_pos hdone, gpioSetAct, spinCount]

/- ### LOOP.BEGIN_SEND -/

/-- After BUF.RESET the cursors span the payload, so a burst pushes what fits of all of it (R100, R120). -/
theorem burstCount_bufReset {s : State} (hc : configOK s.cfg = true) :
    burstCount (bufReset s) = min (s.cfg.fifoDepth - s.fifo.length) s.cfg.len := by
  obtain ⟨hlen, -⟩ := (configOK_iff s.cfg).1 hc
  simp only [burstCount, bufReset_cfg, bufReset_fifo, bufReset_endCur, bufReset_nextCur,
    lastIndex_toNat hc, BitVec.ofNat_eq_ofNat, BitVec.toNat_zero]
  omega

/-- BUF.RESET, then TX.START over an enabled transmitter: the payload is sent from its first byte. -/
theorem txStart_bufReset {s : State} (hc : configOK s.cfg = true) (ht : s.txen = true) :
    txStart (bufReset s) = .ok { s with
      cflag := false, act := true, txeie := true, endCur := lastIndex s.cfg,
      nextCur := BitVec.ofNat 16 (min (s.cfg.fifoDepth - s.fifo.length) s.cfg.len),
      fifo := s.fifo ++ s.cfg.payload.take (min (s.cfg.fifoDepth - s.fifo.length) s.cfg.len) } := by
  obtain ⟨hlen, -⟩ := (configOK_iff s.cfg).1 hc
  have hend : (bufReset s).endCur.toNat < (bufReset s).cfg.len := by
    rw [bufReset_endCur, bufReset_cfg, lastIndex_toNat hc]
    omega
  rw [txStart_eq (s := bufReset s) hc hend (.inl ht), burstCount_bufReset hc]
  simp [bufReset]

/-- Settles O22: UART.ENABLE raises the line where it was low and makes TX.START's premise true, so the
burst is `txStart_bufReset`. -/
theorem loopBeginSendStartsTheFrame : Obligations.LoopBeginSendStartsTheFrame := by
  unfold Obligations.LoopBeginSendStartsTheFrame
  refine ⟨rfl, fun s hc hf hr hs => exec_updates (live_of s hc hf hr) (labelGuard_loopLabel hs) ?_⟩
  simp only [effect, txStart_bufReset (s := uartEnable (timerStop s)) hc rfl]
  rw [← edgeEvents_line_true]
  rfl

/- ### LOOP.SLEEPING -/

/-- With the busy-wait done, SLEEPING ends (R146). -/
theorem exec_loopSleeping_wake {s : State} (hl : live s = true) (hs : s.fstate = .sleeping)
    (h0 : s.sleepCnt = 0) : exec .loopSleeping s = .next { s with fstate := .break_ } :=
  exec_updates hl (labelGuard_loopLabel hs) (by rw [effect, if_pos h0])

/-- One iteration of the busy-wait (R146). -/
theorem exec_loopSleeping_spin {s : State} (hl : live s = true) (hs : s.fstate = .sleeping)
    (h : s.sleepCnt ≠ 0) :
    exec .loopSleeping s = .next { s with sleepCnt := BitVec.ofNat 32 (s.sleepCnt.toNat - 1) } := by
  have hpred : BitVec.ofNat 32 (s.sleepCnt.toNat - 1) = s.sleepCnt - 1 := by bv_omega
  exact exec_updates hl (labelGuard_loopLabel hs) (by rw [effect, if_neg h, hpred])

/-- SLEEPCNT iterations and the step after them lead to BREAK, by induction on SLEEPCNT. -/
theorem path_loopSleeping {n : Nat} {s : State} (hl : live s = true) (hs : s.fstate = .sleeping)
    (hn : s.sleepCnt.toNat = n) :
    Path s (List.replicate (n + 1) .loopSleeping) { s with sleepCnt := 0, fstate := .break_ } := by
  induction n generalizing s with
  | zero =>
    have h0 : s.sleepCnt = 0 := BitVec.eq_of_toNat_eq hn
    have hstep := exec_loopSleeping_wake hl hs h0
    rw [← h0]
    exact .cons ⟨rfl, hstep⟩ (.nil _)
  | succ n ih =>
    have hne : s.sleepCnt ≠ 0 := by
      intro h0
      simp [h0] at hn
    have hstep := exec_loopSleeping_spin hl hs hne
    have hleft : (BitVec.ofNat 32 (s.sleepCnt.toNat - 1)).toNat = n := by bv_omega
    exact .cons ⟨rfl, hstep⟩
      (ih (s := { s with sleepCnt := BitVec.ofNat 32 (s.sleepCnt.toNat - 1) }) hl hs hleft)

/-- Settles O24: the two branches of the arm, and `path_loopSleeping`. -/
theorem loopSleepingSpinsThenBreaks : Obligations.LoopSleepingSpinsThenBreaks := by
  unfold Obligations.LoopSleepingSpinsThenBreaks
  refine ⟨rfl, fun s hc hf hr hs => ?_⟩
  have hl := live_of s hc hf hr
  exact ⟨exec_loopSleeping_wake hl hs, exec_loopSleeping_spin hl hs, path_loopSleeping hl hs rfl⟩

/- ### The arms that raise -/

/-- Settles O25: both arms only raise (`exec_raises`); the codes are R200's. -/
theorem illegalAndSpuriousArmsFault : Obligations.IllegalAndSpuriousArmsFault := by
  unfold Obligations.IllegalAndSpuriousArmsFault
  refine ⟨rfl, rfl, fun s hc hf hr => ?_⟩
  have hl := live_of s hc hf hr
  refine ⟨fun hs => exec_raises (i := .loopIllegal) hl (labelGuard_loopLabel hs) rfl,
    fun hp htie hgie hb hm => exec_raises (i := .tisrSpurious) hl ?_ rfl⟩
  simp [labelGuard, (timerIrq_iff s).2 ⟨hp, htie, hgie⟩, hb, hm]

/- ### The timer's handler -/

/-- GPIO.SET_LINE(1): MAB exactly where the line was low (R178). -/
theorem gpioSetLine_true (s : State) : gpioSetLine true s = { s with
    lineGpio := true,
    wire := s.wire ++ (if s.txen = true ∨ s.lineGpio = true then [] else [.mab]) } := by
  have hhigh : line { s with lineGpio := true } = true := by simp [line_eq]
  rw [gpioSetLine, lineEdge, hhigh, edgeEvents_line_true]

/-- Settles O26: releasing the line is an edge exactly where it was low (`gpioSetLine_true`). -/
theorem tisrInBreakReleasesTheLine : Obligations.TisrInBreakReleasesTheLine := by
  unfold Obligations.TisrInBreakReleasesTheLine
  refine ⟨rfl, fun s hc hf hr hp htie hgie hs => exec_updates (live_of s hc hf hr) ?_ ?_⟩
  · simp [labelGuard, (timerIrq_iff s).2 ⟨hp, htie, hgie⟩, hs]
  · rw [effect, gpioSetLine_true]

/-- Settles O27: the handler's effect is the update itself; the premises are its request (R204). -/
theorem tisrInMarkMovesToBeginSend : Obligations.TisrInMarkMovesToBeginSend := by
  unfold Obligations.TisrInMarkMovesToBeginSend
  refine ⟨rfl, fun s hc hf hr hp htie hgie hs => exec_updates (live_of s hc hf hr) ?_ rfl⟩
  simp [labelGuard, (timerIrq_iff s).2 ⟨hp, htie, hgie⟩, hs]

/- ### The owner of each transition -/

/-- A step that changes FSTATE raises no fault: a raise writes FCODE alone (R201). -/
theorem Trans.fcode_of_fstate_ne {i : Instr} {s t : State} (h : Trans s i t)
    (hne : t.fstate ≠ s.fstate) : t.fcode = 0 := by
  obtain ⟨hl, -, hok | ⟨c, -, rfl⟩⟩ := exec_next h.2
  · rw [(effect_frame hok).1, ((live_iff s).1 hl).2.1]
  · exact absurd rfl hne

/-- Settles O47: a step that changes FSTATE is one of `CleanStep`, whose guard names the state it
leaves. -/
theorem eachTransitionHasOneDriver : Obligations.EachTransitionHasOneDriver := by
  unfold Obligations.EachTransitionHasOneDriver
  intro s t i htrans hne
  cases htrans.cleanStep (htrans.fcode_of_fstate_ne hne) with
  | loopBreak hs | loopMark hs | loopBeginSend _ _ hs | sendingDone hs | wake hs | tisrInBreak hs
  | tisrInMark hs => simp [hs, cycleNext, driver, Instr.agent]
  | spin | pollBreak | pollMark | pollSending => exact absurd rfl hne
  | txisr | timerTick | uartShift => simp at hne

end Sys2Proof.Machine
end

section
/-! PROOFS. The device steps of the timer and the UART and the primitives without an operand (spec
43_collaborators.md R171 to R174, R177, R181), each as the update its rule states. -/

namespace Sys2Proof.Machine

/- ### TIMER.TICK -/

theorem labelGuard_timerTick {s : State} (ha : s.tarmed = true) (h : 0 < s.tcount.toNat) :
    labelGuard .timerTick s = true := by
  simp [labelGuard, ha, h]

/-- A tick above 1 counts down (R172). -/
theorem exec_timerTick_counts {s : State} (hl : live s = true) (ha : s.tarmed = true)
    (h : 1 < s.tcount.toNat) :
    exec .timerTick s = .next { s with tcount := BitVec.ofNat 32 (s.tcount.toNat - 1) } := by
  have hpred : BitVec.ofNat 32 (s.tcount.toNat - 1) = s.tcount - 1 := by bv_omega
  have hleft : s.tcount - 1 ≠ 0 := by bv_omega
  exact exec_updates hl (labelGuard_timerTick ha (by omega))
    (by rw [effect, timerTick, if_neg hleft, hpred])

/-- The tick at 1 is the expiry (R172). -/
theorem exec_timerTick_expires {s : State} (hl : live s = true) (ha : s.tarmed = true)
    (h : s.tcount.toNat = 1) :
    exec .timerTick s = .next { s with tcount := 0, tarmed := false, tpend := true } := by
  have hzero : s.tcount - 1 = 0 := by bv_omega
  exact exec_updates hl (labelGuard_timerTick ha (by omega))
    (by rw [effect, timerTick, if_pos hzero, hzero])

/-- A path goes on with one more step at its end. -/
theorem Path.concat {s t u : State} {i : Instr} {is : List Instr} (h : Path s is t)
    (hstep : Trans t i u) : Path s (is ++ [i]) u := by
  induction h with
  | nil => exact .cons hstep (.nil _)
  | cons hfirst _ ih => exact .cons hfirst (ih hstep)

/-- TCOUNT's container holds whatever is left of its count. -/
theorem toNat_ofNat_tcount_sub (s : State) (m : Nat) :
    (BitVec.ofNat 32 (s.tcount.toNat - m)).toNat = s.tcount.toNat - m := by
  bv_omega

/-- Fewer ticks than TCOUNT only count down, by induction on the ticks. -/
theorem path_timerTick_counts {s : State} (hl : live s = true) (ha : s.tarmed = true) (m : Nat)
    (hm : m < s.tcount.toNat) :
    Path s (List.replicate m .timerTick) { s with
      tcount := BitVec.ofNat 32 (s.tcount.toNat - m) } := by
  induction m with
  | zero => simpa using Path.nil s
  | succ m ih =>
    have hleft := toNat_ofNat_tcount_sub s m
    have hstep := exec_timerTick_counts
      (s := { s with tcount := BitVec.ofNat 32 (s.tcount.toNat - m) }) hl ha (by dsimp only; omega)
    rw [hleft, Nat.sub_sub] at hstep
    rw [List.replicate_succ']
    exact (ih (by omega)).concat ⟨rfl, hstep⟩

/-- The last of TCOUNT ticks finds 1 left, so it is the expiry. -/
theorem path_timerTick_expires {s : State} (hl : live s = true) (ha : s.tarmed = true)
    (h : 0 < s.tcount.toNat) :
    Path s (List.replicate s.tcount.toNat .timerTick) { s with
      tcount := 0, tarmed := false, tpend := true } := by
  obtain ⟨m, hm⟩ := Nat.exists_eq_add_one.2 h
  have hleft := toNat_ofNat_tcount_sub s m
  have hstep := exec_timerTick_expires
    (s := { s with tcount := BitVec.ofNat 32 (s.tcount.toNat - m) }) hl ha (by dsimp only; omega)
  have hcount : List.replicate s.tcount.toNat Instr.timerTick
      = List.replicate m .timerTick ++ [.timerTick] := by
    rw [hm, List.replicate_succ']
  rw [hcount]
  exact (path_timerTick_counts hl ha m (by omega)).concat ⟨rfl, hstep⟩

/-- Settles O36: one tick is `exec_timerTick_counts` or `exec_timerTick_expires`, and many are the two
paths made of them. -/
theorem timerTickCountsAndExpires : Obligations.TimerTickCountsAndExpires := by
  unfold Obligations.TimerTickCountsAndExpires
  refine ⟨rfl, fun s hc hf hr ha => ?_⟩
  have hl := live_of s hc hf hr
  exact ⟨exec_timerTick_counts hl ha, exec_timerTick_expires hl ha, path_timerTick_counts hl ha,
    path_timerTick_expires hl ha⟩

/- ### TIMER.STOP, UART.SHIFT and TXEIE -/

/-- Settles O39: TIMER.STOP has no guard, and its effect is the update itself. -/
theorem timerStopClearsTheTimer : Obligations.TimerStopClearsTheTimer := by
  unfold Obligations.TimerStopClearsTheTimer
  exact ⟨rfl, fun s hc hf hr => exec_updates (live_of s hc hf hr) rfl rfl⟩

/-- Settles O37: the premises on TXEN and FIFO are the label's guard (R80), and the byte sent is
FIFO's head (`uartShift_eq`). -/
theorem uartShiftSendsTheOldestByte : Obligations.UartShiftSendsTheOldestByte := by
  unfold Obligations.UartShiftSendsTheOldestByte
  refine ⟨rfl, fun s b rest hc hf hr ht hq => exec_updates (live_of s hc hf hr) ?_ ?_⟩
  · simp [labelGuard, ht, hq]
  · simp [effect, uartShift_eq, hq]

/-- Settles O44: each of the two is `writeTxeie` with its value. -/
theorem txeieIsSetAndCleared : Obligations.TxeieIsSetAndCleared := by
  unfold Obligations.TxeieIsSetAndCleared
  refine ⟨rfl, rfl, fun s hc hf hr => ?_⟩
  have hl := live_of s hc hf hr
  exact ⟨exec_updates hl rfl rfl, exec_updates hl rfl rfl⟩

/- ### UART.ENABLE and UART.DISABLE -/

/-- UART.ENABLE as a whole-state update: MAB exactly where the line was low (R29, R173). -/
theorem uartEnable_eq (s : State) : uartEnable s = { s with
    txen := true,
    wire := s.wire ++ (if s.txen = false ∧ s.lineGpio = false then [.mab] else []) } := by
  have hedge : edgeEvents (line s) true
      = if s.txen = false ∧ s.lineGpio = false then [.mab] else [] := by
    rw [edgeEvents_line_true]
    cases s.txen <;> cases s.lineGpio <;> rfl
  rw [← hedge]
  rfl

/-- Settles O40: UART.ENABLE has no guard, and its effect is `uartEnable_eq`. -/
theorem uartEnableDrivesTheLineHigh : Obligations.UartEnableDrivesTheLineHigh := by
  unfold Obligations.UartEnableDrivesTheLineHigh
  refine ⟨rfl, fun s hc hf hr => exec_updates (live_of s hc hf hr) rfl ?_⟩
  rw [effect, uartEnable_eq]

/-- Handing the line back to the GPIO lets it fall only if the transmitter alone held it high (R29,
R174, R180). -/
theorem edgeEvents_line_lineGpio (s : State) :
    edgeEvents (line s) s.lineGpio = if s.txen = true ∧ s.lineGpio = false then [.brk] else [] := by
  rw [line_eq]
  cases s.txen <;> cases s.lineGpio <;> rfl

/-- Settles O41: UART.DISABLE has no guard; its effect is the model's `uartDisable_eq` with the edge of
`edgeEvents_line_lineGpio`. -/
theorem uartDisableDiscardsTheFifo : Obligations.UartDisableDiscardsTheFifo := by
  unfold Obligations.UartDisableDiscardsTheFifo
  refine ⟨rfl, fun s hc hf hr => exec_updates (live_of s hc hf hr) rfl ?_⟩
  rw [effect, uartDisable_eq, edgeEvents_line_lineGpio]

end Sys2Proof.Machine
end

section
/-! PROOFS. What a fault keeps and that it is final (spec 60_exceptions.md R200, R201). -/

namespace Sys2Proof.Machine

/-- R200's codes are 1 to 5; 0, 6 and 7 are no fault's. -/
theorem faultNumber_range (c : FaultCode) :
    1 ≤ (faultNumber c).toNat ∧ (faultNumber c).toNat ≤ 5 := by
  cases c <;> decide

/-- A step that ends with FCODE not 0 raised the fault itself: it started live, so with FCODE = 0, and
an effect that ends well keeps that 0. -/
theorem exec_next_of_fcode_ne_zero {i : Instr} {s t : State} (h : exec i s = .next t)
    (hf : t.fcode ≠ 0) : s.fcode = 0 ∧ ∃ c, t = raiseFault c s := by
  obtain ⟨hl, -, hend⟩ := exec_next h
  obtain ⟨-, hzero, -⟩ := (live_iff s).1 hl
  refine ⟨hzero, ?_⟩
  rcases hend with hok | ⟨c, -, hraise⟩
  · obtain ⟨hkept, -⟩ := effect_frame hok
    exact absurd (hkept.trans hzero) hf
  · exact ⟨c, hraise⟩

theorem not_live_of_fcode_ne_zero {s : State} (h : s.fcode ≠ 0) : live s = false :=
  Bool.eq_false_iff.2 fun hl => h ((live_iff s).1 hl).2.1

/-- A state that is not live enables no label of any agent. -/
theorem not_takes_of_not_live {s : State} (h : live s = false) (i : Instr) : ¬Takes i s :=
  fun htakes => Bool.eq_false_iff.1 h ((takes_iff i s).1 htakes).1

/-- Settles O18: the next state is `raiseFault` (`exec_next_of_fcode_ne_zero`), and a state with FCODE
not 0 is not live, so neither a label nor the schedule takes a step in it. -/
theorem faultKeepsNoOtherWriteAndIsFinal : Obligations.FaultKeepsNoOtherWriteAndIsFinal := by
  unfold Obligations.FaultKeepsNoOtherWriteAndIsFinal
  refine ⟨fun i s t h hf => ?_, fun s hf => ?_⟩
  · obtain ⟨hzero, c, rfl⟩ := exec_next_of_fcode_ne_zero h hf
    exact ⟨rfl, hzero, faultNumber_range c⟩
  · have hl := not_live_of_fcode_ne_zero hf
    exact ⟨not_takes_of_not_live hl, whyStopped s, step_not_live hl⟩

end Sys2Proof.Machine
end

section
/-! PROOFS. The launch state and the timing premises (spec 70_reset_and_hazards.md R240, R250). -/

namespace Sys2Proof.Machine

/- ### The launch state -/

/-- A launch is refused only for its parameters (R203). -/
theorem launch_refused_eq_false {c : Config} (hc : configOK c = true) :
    (State.launch c).refused = false := by
  rw [State.launch, hc, Bool.not_true]

/-- A launch whose parameters pass R15 is live, whatever schedule is loaded. -/
theorem live_launchWith {c : Config} (hc : configOK c = true) (bs : List Byte) :
    live (State.launchWith c bs) = true :=
  live_of _ hc rfl (launch_refused_eq_false hc)

/-- Settles O10: END by `lastIndex_toNat` and REFUSED by `launch_refused_eq_false` rest on R15's check,
STATUS is `statusWord_launch`, and every other element holds its value whatever the parameters. -/
theorem launchStateIsAsTabled : Obligations.LaunchStateIsAsTabled := by
  unfold Obligations.LaunchStateIsAsTabled
  intro c hc
  have hend : (State.launch c).endCur.toNat = c.len - 1 := lastIndex_toNat hc
  exact ⟨rfl, rfl, rfl, hend, rfl, rfl, rfl, rfl, rfl, rfl, rfl, rfl, rfl, rfl, rfl, rfl, rfl, rfl, rfl,
    launch_refused_eq_false hc, statusWord_launch c⟩

/- ### The first step of a launch -/

/-- A live state takes the schedulable label that its schedule names next. -/
theorem step_of_schedule_encode {s : State} {i : Instr} {rest : List Byte} (hl : live s = true)
    (hi : i.schedulable = true) (hs : s.schedule = encode i :: rest) :
    step s = exec i { s with schedule := rest } := by
  have hread : readLabel (encode i) = .schedulable i := by rw [readLabel_encode, if_pos hi]
  simp [step, advance, hl, fetchLabel, hs, hread, runFetched]

/-- LOOP.BREAK, 0x00, takes the first step of every launch whose parameters pass R15. -/
theorem step_launchWith_loopBreak {c : Config} (hc : configOK c = true) (rest : List Byte) :
    ∃ t, step (State.launchWith c (0x00 :: rest)) = .next t := by
  have htaken : step (State.launchWith c (0x00 :: rest)) = exec .loopBreak (State.launchWith c rest) :=
    step_of_schedule_encode (i := .loopBreak) (live_launchWith hc _) rfl rfl
  exact ⟨_, htaken.trans (exec_updates (live_launchWith hc rest) rfl rfl)⟩

/- ### The timing premises -/

/-- A duration of `ticks` at `hz` ticks a second is at least `us` microseconds: multiplied out and as a
quotient. -/
theorem mul_le_mul_iff_div_le_div (us ticks : Nat) {hz : Nat} (hhz : 0 < hz) :
    us * hz ≤ 1000000 * ticks ↔ (us : ℚ) / 1000000 ≤ (ticks : ℚ) / (hz : ℚ) := by
  have hpos : (0 : ℚ) < hz := Nat.cast_pos.2 hhz
  rw [div_le_div_iff₀ (by norm_num) hpos, mul_comm (ticks : ℚ)]
  norm_cast

/-- Settles O13: each premise is `mul_le_mul_iff_div_le_div` at its minimum; that a launch starts needs
R15's check alone, so the failing premise is not used; a break and a mark of one tick each at 1 MHz fail
both. -/
theorem timingPremisesAreNotChecked : Obligations.TimingPremisesAreNotChecked := by
  unfold Obligations.TimingPremisesAreNotChecked
  refine ⟨fun c hhz => ⟨?_, ?_⟩, fun c hc _ => ?_, ?_⟩
  · simpa only [breakPremise, decide_eq_true_iff, Nat.cast_ofNat] using
      mul_le_mul_iff_div_le_div 88 c.breakTicks hhz
  · simpa only [markPremise, decide_eq_true_iff, Nat.cast_ofNat] using
      mul_le_mul_iff_div_le_div 8 c.markTicks hhz
  · exact ⟨launch_refused_eq_false hc, step_launchWith_loopBreak hc []⟩
  · exact ⟨{ Config.atReset with breakTicks := 1, markTicks := 1 }, by decide⟩

end Sys2Proof.Machine
end

section
/-! PROOFS. Whole schedules and table words (spec 30_encoding.md R79, R84, R87). -/

namespace Sys2Proof

/-- Settles O4: decoding takes one byte, whose label is `decodeLabel_encode`; as a table word of 8 bits
an encoding is itself. -/
theorem decodeOfEncodeIsTheLabel : Obligations.DecodeOfEncodeIsTheLabel := by
  unfold Obligations.DecodeOfEncodeIsTheLabel
  intro i
  have hbytes : ∀ rest, decodeBytes (encode i :: rest) = .ok (i, rest) := fun rest => by
    simp [decodeBytes]
  have hword : tableBytes 8 (encode i).toNat = [encode i] := by
    rw [tableBytes, Nat.mod_eq_of_lt (encode i).isLt, BitVec.ofNat_toNat, BitVec.setWidth_eq]
  exact ⟨decodeLabel_encode i, hbytes, by rw [decodeTableWord, hword, hbytes]⟩

theorem encodeSchedule_append (is js : List Instr) :
    encodeSchedule is ++ encodeSchedule js = encodeSchedule (is ++ js) :=
  List.map_append.symm

theorem decodeSchedule_encodeSchedule (is : List Instr) :
    decodeSchedule (encodeSchedule is) = .ok is := by
  induction is with
  | nil => rfl
  | cons i is ih =>
    rw [encodeSchedule] at ih ⊢
    rw [List.map_cons, decodeSchedule, decodeLabel_encode, ih]

/-- A string that decodes begins with a label's byte, and what follows it decodes too. -/
theorem decodeSchedule_cons_ok {b : Byte} {bs : List Byte} {is : List Instr}
    (h : decodeSchedule (b :: bs) = .ok is) :
    ∃ i js, is = i :: js ∧ decodeLabel b = .ok i ∧ decodeSchedule bs = .ok js := by
  rw [decodeSchedule] at h
  split at h
  · cases h
  · split at h
    · cases h
    · cases h
      exact ⟨_, _, rfl, ‹_›, ‹_›⟩

theorem encodeSchedule_of_decodeSchedule {bs : List Byte} {is : List Instr}
    (h : decodeSchedule bs = .ok is) : encodeSchedule is = bs := by
  induction bs generalizing is with
  | nil => cases h; rfl
  | cons b bs ih =>
    obtain ⟨i, js, rfl, hlabel, hrest⟩ := decodeSchedule_cons_ok h
    rw [encodeSchedule, List.map_cons, encode_of_decodeLabel hlabel]
    exact congrArg (b :: ·) (ih hrest)

/-- A well-formed byte string begins with a schedulable label's byte, and its rest is well formed. -/
theorem bytesWf_cons {b : Byte} {bs : List Byte} (h : bytesWf (b :: bs) = true) :
    (∃ i, readLabel b = .schedulable i) ∧ bytesWf bs = true := by
  rw [bytesWf, List.all_cons, Bool.and_eq_true] at h
  obtain ⟨hb, hbs⟩ := h
  refine ⟨?_, hbs⟩
  cases hread : readLabel b with
  | schedulable i => exact ⟨i, rfl⟩
  | micro i => simp [hread] at hb
  | reserved => simp [hread] at hb

theorem decodeSchedule_of_bytesWf {bs : List Byte} (h : bytesWf bs = true) :
    ∃ is, decodeSchedule bs = .ok is ∧ scheduleWf is = true := by
  induction bs with
  | nil => exact ⟨[], rfl, rfl⟩
  | cons b bs ih =>
    obtain ⟨⟨i, hread⟩, hrest⟩ := bytesWf_cons h
    obtain ⟨hlabel, hi⟩ := Machine.readLabel_schedulable hread
    obtain ⟨is, hdec, hwf⟩ := ih hrest
    refine ⟨i :: is, by rw [decodeSchedule, hlabel, hdec], ?_⟩
    rw [scheduleWf, List.all_cons, hi, Bool.true_and]
    exact hwf

/-- Settles O5: by induction on the schedule and on the byte string, one label at a time. -/
theorem scheduleEncodingRoundTrips : Obligations.ScheduleEncodingRoundTrips := by
  unfold Obligations.ScheduleEncodingRoundTrips
  refine ⟨fun is js => ?_, fun _ _ => encodeSchedule_of_decodeSchedule,
    fun _ => decodeSchedule_of_bytesWf⟩
  rw [encodeSchedule_append, decodeSchedule_encodeSchedule]

end Sys2Proof
end

section
/-! PROOFS. The steps of the block where the invariants of spec 42_frame_timing_controller.md R155 hold:
each as one plain update, and that they keep the invariants and raise no fault. -/

namespace Sys2Proof.Machine

/-- The agents' steps from a state that meets R155's invariants, each with the part of its guard that
says where in the cycle it stands. Unlike in `CleanStep` the events on WIRE and the bytes of a burst are
determined: the invariants decide the level of LINE and the cursors. -/
inductive CycleStep (s : State) : Instr → State → Prop where
  | pollBreak : s.fstate = .inBreak → CycleStep s .loopInBreak s
  | pollMark : s.fstate = .inMark → CycleStep s .loopInMark s
  | pollSending : s.fstate = .sending → s.cflag = false → CycleStep s .loopSending s
  | loopBreak : s.fstate = .break_ → CycleStep s .loopBreak { s with
      txen := false, lineGpio := false, fifo := [], trunc := s.trunc || !s.fifo.isEmpty,
      wire := s.wire ++ (if s.fifo = [] then [] else [.trunc s.fifo.length]) ++ [.brk],
      tcount := BitVec.ofNat 32 s.cfg.breakTicks, tarmed := true, tpend := false, tie := true,
      fstate := .inBreak }
  | tisrInBreak : s.fstate = .inBreak → s.tpend = true → CycleStep s .tisrInBreak { s with
      tpend := false, lineGpio := true, wire := s.wire ++ [.mab], fstate := .mark }
  | loopMark : s.fstate = .mark → CycleStep s .loopMark { s with
      tcount := BitVec.ofNat 32 s.cfg.markTicks, tarmed := true, tpend := false, tie := true,
      fstate := .inMark }
  | tisrInMark : s.fstate = .inMark → s.tpend = true → CycleStep s .tisrInMark { s with
      tpend := false, fstate := .beginSend }
  | loopBeginSend : s.fstate = .beginSend → CycleStep s .loopBeginSend { s with
      tarmed := false, tcount := 0, tpend := false, tie := false, txen := true,
      endCur := BitVec.ofNat 16 (s.cfg.len - 1),
      nextCur := BitVec.ofNat 16 (min s.cfg.fifoDepth s.cfg.len),
      fifo := s.cfg.payload.take (min s.cfg.fifoDepth s.cfg.len),
      cflag := false, act := true, txeie := true, fstate := .sending }
  | txisr : s.txeie = true → s.fifo.length < s.cfg.fifoDepth → CycleStep s .txisr { s with
      fifo := s.fifo ++ (s.cfg.payload.drop s.nextCur.toNat).take (burstCount s),
      nextCur := BitVec.ofNat 16 (s.nextCur.toNat + burstCount s),
      cflag := s.cflag || decide (s.endCur.toNat < s.nextCur.toNat + burstCount s),
      txeie := decide (s.nextCur.toNat + burstCount s ≤ s.endCur.toNat) }
  | sendingDone : s.fstate = .sending → s.cflag = true → CycleStep s .loopSending { s with
      act := false, sleepCnt := BitVec.ofNat 32 s.cfg.sleepIters, fstate := .sleeping }
  | spin : s.fstate = .sleeping → s.sleepCnt ≠ 0 → CycleStep s .loopSleeping { s with
      sleepCnt := BitVec.ofNat 32 (s.sleepCnt.toNat - 1) }
  | wake : s.fstate = .sleeping → s.sleepCnt = 0 → CycleStep s .loopSleeping { s with
      fstate := .break_ }
  | tick : s.tarmed = true → 1 < s.tcount.toNat → CycleStep s .timerTick { s with
      tcount := BitVec.ofNat 32 (s.tcount.toNat - 1) }
  | expire : s.tarmed = true → s.tcount.toNat = 1 → CycleStep s .timerTick { s with
      tcount := 0, tarmed := false, tpend := true }
  | uartShift (b : Byte) (rest : List Byte) : s.txen = true → s.fifo = b :: rest →
      CycleStep s .uartShift { s with fifo := rest, wire := s.wire ++ [.byte b] }

/-- Where the invariants hold, an enabled schedulable label takes its step, and the step is the one of
`CycleStep`: R155 rules out every fault. -/
theorem exec_cycleStep {s : State} {i : Instr} (hinv : Invariants s) (hl : live s = true)
    (hi : i.schedulable = true) (hg : labelGuard i s = true) :
    ∃ t, exec i s = .next t ∧ CycleStep s i t := by
  obtain ⟨hc, hf, hr⟩ := (live_iff s).1 hl
  obtain ⟨⟨-, hend⟩, -, hpend, -, htxeie, -, hfifo, htxen, hline, -, -, -, -, -, hcode⟩ := hinv
  obtain ⟨hlen, -⟩ := (configOK_iff s.cfg).1 hc
  cases i
  case bufReset | bufHasMore | bufTakeNext | txBurst | txStart | uartPush | uartEnable | uartDisable
      | timerArm | timerStop | gpioSetLine | gpioSetAct | txeieSet | txeieClear => cases hi
  all_goals
    simp only [labelGuard, beq_iff_eq, bne_iff_ne, Bool.and_eq_true, decide_eq_true_iff, timerIrq_iff,
      txeIrq_iff, ne_eq] at hg
  case loopBreak =>
    have hhigh : s.lineGpio = true := by simpa [I9, hg] using hline
    have hstep := loopBreakPullsTheLineLowAndArms.2 s hc hf hr hg
    rw [if_pos (c := s.txen = true ∨ _) (.inr hhigh)] at hstep
    exact ⟨_, hstep, .loopBreak hg⟩
  case loopInBreak =>
    exact ⟨s, ((pollsChangeNothing.2.2 s hc hf hr).1 hg).1, .pollBreak hg⟩
  case loopMark => exact ⟨_, loopMarkArmsTheMark.2 s hc hf hr hg, .loopMark hg⟩
  case loopInMark =>
    exact ⟨s, ((pollsChangeNothing.2.2 s hc hf hr).2.1 hg).1, .pollMark hg⟩
  case loopBeginSend =>
    have hhigh : s.lineGpio = true := by simpa [I9, hg] using hline
    have hoff : s.txen = false := by simpa [I8, hg] using htxen
    have hstep := loopBeginSendStartsTheFrame.2 s hc hf hr hg
    rw [if_pos (.inr hhigh), hfifo hoff, List.length_nil, Nat.sub_zero, List.nil_append,
      List.append_nil] at hstep
    exact ⟨_, hstep, .loopBeginSend hg⟩
  case loopSending =>
    obtain ⟨hdone, hwait⟩ := loopSendingWaitsForCompletion.2 s hc hf hr hg
    cases hflag : s.cflag
    · exact ⟨s, hwait hflag, .pollSending hg hflag⟩
    · exact ⟨_, hdone hflag, .sendingDone hg hflag⟩
  case loopSleeping =>
    by_cases h0 : s.sleepCnt = 0
    · exact ⟨_, exec_loopSleeping_wake hl hg h0, .wake hg h0⟩
    · exact ⟨_, exec_loopSleeping_spin hl hg h0, .spin hg h0⟩
  case loopIllegal => exact absurd hg hcode
  case tisrInBreak =>
    obtain ⟨⟨hp, htie, hgie⟩, hs⟩ := hg
    have hlow : s.lineGpio = false := hline.2 hs
    have hoff : s.txen = false := by simpa [I8, hs] using htxen
    have hstep := tisrInBreakReleasesTheLine.2 s hc hf hr hp htie hgie hs
    rw [if_neg (by simp [hlow, hoff])] at hstep
    exact ⟨_, hstep, .tisrInBreak hs hp⟩
  case tisrInMark =>
    obtain ⟨⟨hp, htie, hgie⟩, hs⟩ := hg
    exact ⟨_, tisrInMarkMovesToBeginSend.2 s hc hf hr hp htie hgie hs, .tisrInMark hs hp⟩
  case tisrSpurious =>
    obtain ⟨⟨⟨hp, -, -⟩, hb⟩, hm⟩ := hg
    exact absurd (hpend (.inr hp)) (not_or.2 ⟨hb, hm⟩)
  case txisr =>
    obtain ⟨he, hgie, hroom⟩ := hg
    obtain ⟨-, -, hon⟩ := htxeie he
    have hlast : s.endCur.toNat < s.cfg.len := by omega
    exact ⟨_, (txisrDrainsAndCompletes.2 s hc hf hr he hgie hroom hlast).1 (.inl hon),
      .txisr he hroom⟩
  case timerTick =>
    obtain ⟨ha, hpos⟩ := hg
    by_cases h1 : s.tcount.toNat = 1
    · exact ⟨_, exec_timerTick_expires hl ha h1, .expire ha h1⟩
    · exact ⟨_, exec_timerTick_counts hl ha (by omega), .tick ha (by omega)⟩
  case uartShift =>
    obtain ⟨ht, hq⟩ := hg
    obtain ⟨b, rest, hq⟩ := List.exists_cons_of_length_pos hq
    exact ⟨_, uartShiftSendsTheOldestByte.2 s b rest hc hf hr ht hq, .uartShift b rest ht hq⟩

/-- A step from a state that meets the invariants is one of `CycleStep`. -/
theorem Trans.cycleStep {s t : State} {i : Instr} (h : Trans s i t) (hinv : Invariants s) :
    CycleStep s i t := by
  obtain ⟨hi, hexec⟩ := h
  obtain ⟨hl, hg, -⟩ := exec_next hexec
  obtain ⟨u, hu, hstep⟩ := exec_cycleStep hinv hl hi hg
  obtain rfl : u = t := by simpa using hu.symm.trans hexec
  exact hstep

theorem CycleStep.fcode_eq {s t : State} {i : Instr} (h : CycleStep s i t) : t.fcode = s.fcode := by
  cases h <;> rfl

theorem CycleStep.cfg_eq {s t : State} {i : Instr} (h : CycleStep s i t) : t.cfg = s.cfg := by
  cases h <;> rfl

/-- Each step of `CycleStep` keeps R155's invariants. Where the step stands in the cycle settles most of
them; where a register is loaded with a number, that the number fits it is R15's check. -/
theorem CycleStep.invariants {s t : State} {i : Instr} (h : CycleStep s i t)
    (hc : configOK s.cfg = true) (hinv : Invariants s) : Invariants t := by
  obtain ⟨hpos, hlen, hpay, -, -, -, -, -, hbreak, hbreakFits, hmark, hmarkFits, -⟩ :=
    (configOK_iff s.cfg).1 hc
  simp only [Invariants, I1, I2, I3, I4, I5, I6, I7, I8, I9, I10, I11, I12, I13, I14, I15] at hinv ⊢
  cases h with
  | pollBreak | pollMark | pollSending => exact hinv
  | loopBreak hs =>
    have hload := toNat_ofNat_of_le_timerWidth hc hbreakFits
    simp_all [-BitVec.toNat_ofNat]
  | loopMark hs =>
    have hload := toNat_ofNat_of_le_timerWidth hc hmarkFits
    simp_all [-BitVec.toNat_ofNat]
  | loopBeginSend hs =>
    have hend : (BitVec.ofNat 16 (s.cfg.len - 1)).toNat = s.cfg.len - 1 := lastIndex_toNat hc
    have hnext : (BitVec.ofNat 16 (min s.cfg.fifoDepth s.cfg.len)).toNat
        = min s.cfg.fifoDepth s.cfg.len := Nat.mod_eq_of_lt (by omega)
    simp_all [-BitVec.toNat_ofNat]
  | txisr he hroom =>
    have ⟨⟨hnext, hend⟩, _, _, _, htxeie, _⟩ := hinv
    obtain ⟨hs, hwait, hon⟩ := htxeie he
    have hmoved := nextCur_add_burstCount_toNat (s := s) hc (by omega)
    have hcount : burstCount s ≤ s.cfg.fifoDepth - s.fifo.length ∧
        burstCount s ≤ s.cfg.len - s.nextCur.toNat := by unfold burstCount; omega
    simp_all [-BitVec.toNat_ofNat]
    omega
  | tick ha h1 =>
    have hleft : (BitVec.ofNat 32 (s.tcount.toNat - 1)).toNat = s.tcount.toNat - 1 := by bv_omega
    simp_all [-BitVec.toNat_ofNat]
    omega
  | uartShift b rest ht hq =>
    have hfit : rest.length ≤ s.fifo.length := by simp [hq]
    simp_all
    omega
  | tisrInBreak | tisrInMark | sendingDone | spin | wake | expire => simp_all

theorem Trans.configOK {s t : State} {i : Instr} (h : Trans s i t) : configOK s.cfg = true :=
  configOK_of_live (exec_next h.2).1

theorem Trans.invariants {s t : State} {i : Instr} (h : Trans s i t) (hinv : Invariants s) :
    Invariants t :=
  (h.cycleStep hinv).invariants h.configOK hinv

/-- All that a step of the machine can do where the invariants hold: take the label at the head of the
schedule off it and make a step of `CycleStep`, or refuse that label. -/
theorem step_cycleStep {s t : State} (hinv : Invariants s) (h : step s = .next t) :
    configOK s.cfg = true ∧
      ((∃ i rest, CycleStep { s with schedule := rest } i t) ∨ t = refuseLabel s) := by
  obtain ⟨hl, b, rest, -, ⟨i, hread, hexec⟩ | rfl⟩ := step_next h
  · have htrans : Trans { s with schedule := rest } i t := ⟨(readLabel_schedulable hread).2, hexec⟩
    exact ⟨htrans.configOK, .inl ⟨i, rest, htrans.cycleStep hinv⟩⟩
  · exact ⟨configOK_of_live hl, .inr rfl⟩

/-- Settles O50: no invariant speaks of the schedule or of REFUSED, so it is `CycleStep.invariants`. -/
theorem everyStepKeepsTheInvariants : Obligations.EveryStepKeepsTheInvariants := by
  unfold Obligations.EveryStepKeepsTheInvariants
  intro s t hinv h
  obtain ⟨hc, ⟨i, rest, hstep⟩ | rfl⟩ := step_cycleStep hinv h
  · exact ⟨hstep.invariants hc hinv, hstep.fcode_eq⟩
  · exact ⟨hinv, rfl⟩

end Sys2Proof.Machine
end

section
/-! PROOFS. Which label takes a step (spec 30_encoding.md R78, R80; 60_exceptions.md R203, R218;
70_reset_and_hazards.md R242). -/

namespace Sys2Proof.Machine

/- ### The label at the head of the schedule -/

/-- Settles O14: a byte that decodes to a label is that label's encoding, so it is
`step_of_schedule_encode`. -/
theorem stepRunsTheScheduledLabel : Obligations.StepRunsTheScheduledLabel := by
  unfold Obligations.StepRunsTheScheduledLabel
  intro s b rest i hc hf hr hs hlabel hi
  rw [← encode_of_decodeLabel hlabel] at hs
  exact step_of_schedule_encode (live_of s hc hf hr) hi hs

/-- A byte that reads as no schedulable label is refused and stays where it is (R78). -/
theorem step_of_not_schedulable {s : State} {b : Byte} {rest : List Byte} (hl : live s = true)
    (hs : s.schedule = b :: rest) (hb : ∀ i, readLabel b ≠ .schedulable i) :
    step s = .next (refuseLabel s) := by
  cases hread : readLabel b with
  | schedulable i => exact absurd hread (hb i)
  | micro i => simp [step, advance, hl, fetchLabel, hs, hread, runFetched]
  | reserved => simp [step, advance, hl, fetchLabel, hs, hread, runFetched]

/-- Where the schedulable labels lie: each agent's OPs from its code up (R71 to R76). -/
theorem encode_toNat_of_schedulable {i : Instr} (hi : i.schedulable = true) :
    (encode i).toNat ≤ 0x07 ∨ 0x20 ≤ (encode i).toNat ∧ (encode i).toNat ≤ 0x22 ∨
      (encode i).toNat = 0x40 ∨ (encode i).toNat = 0x60 ∨ (encode i).toNat = 0x80 := by
  have hop := i.op_lt_opCount
  rw [Instr.schedulable_iff] at hi
  rw [encode_toNat]
  cases hagent : i.agent <;> simp [hagent, Agent.code, Agent.opCount] at hi hop ⊢ <;> omega

/-- After a refusal no step exists, whatever is scheduled (R203). -/
theorem step_of_refused {s : State} (hc : configOK s.cfg = true) (hr : s.refused = true) :
    step s = .refused .refLabel := by
  have hl : live s = false := Bool.eq_false_iff.2 fun hl => by simp [((live_iff s).1 hl).2.2] at hr
  rw [step_not_live hl, whyStopped, if_pos hc, if_pos hr]

/-- Settles O15: the ranges hold none of the bytes of `encode_toNat_of_schedulable`. -/
theorem reservedAndMicroLabelsAreRefused : Obligations.ReservedAndMicroLabelsAreRefused := by
  unfold Obligations.ReservedAndMicroLabelsAreRefused
  intro s b rest hc hf hr hs hb
  have hread : ∀ i, readLabel b ≠ .schedulable i := fun i hread => by
    obtain ⟨hlabel, hi⟩ := readLabel_schedulable hread
    have hrange := encode_toNat_of_schedulable hi
    rw [encode_of_decodeLabel hlabel] at hrange
    omega
  exact ⟨step_of_not_schedulable (live_of s hc hf hr) hs hread,
    fun bs => step_of_refused (s := { s with refused := true, schedule := bs }) hc rfl⟩

/-- At launch FSTATE is BREAK and no device runs, so one guard alone holds (R242). -/
theorem eq_loopBreak_of_labelGuard_launch {c : Config} {bs : List Byte} {i : Instr}
    (hi : i.schedulable = true) (hg : labelGuard i (State.launchWith c bs) = true) :
    i = .loopBreak := by
  cases i
  case loopBreak => rfl
  case bufReset | bufHasMore | bufTakeNext | txBurst | txStart | uartPush | uartEnable | uartDisable
      | timerArm | timerStop | gpioSetLine | gpioSetAct | txeieSet | txeieClear => cases hi
  all_goals simp [labelGuard, timerIrq, txeIrq, State.launchWith, State.launch] at hg

/-- Settles O12: LOOP.BREAK's step is that of R140 and does not write REFUSED; any other byte is
refused or has a false guard. -/
theorem onlyLoopBreakIsEnabledAtLaunch : Obligations.OnlyLoopBreakIsEnabledAtLaunch := by
  unfold Obligations.OnlyLoopBreakIsEnabledAtLaunch
  intro c b rest hc
  have hl := live_launchWith hc (b :: rest)
  refine ⟨fun ⟨t, hstep, hr⟩ => ?_, fun hb => ?_⟩
  · obtain ⟨-, _, _, hs, ⟨i, hread, hexec⟩ | rfl⟩ := step_next hstep
    · cases hs
      obtain ⟨hlabel, hi⟩ := readLabel_schedulable hread
      obtain ⟨-, hg, -⟩ := exec_next hexec
      obtain rfl := eq_loopBreak_of_labelGuard_launch hi hg
      exact (encode_of_decodeLabel hlabel).symm
    · cases hr
  · subst hb
    have hrefused := launch_refused_eq_false hc
    have htaken := step_of_schedule_encode (i := .loopBreak) hl rfl rfl
    exact ⟨_, htaken.trans
      (loopBreakPullsTheLineLowAndArms.2 (State.launchWith c rest) hc rfl hrefused rfl), hrefused⟩

/- ### The guards -/

/-- Settles O16: in a live state a label takes its step exactly where `labelGuard` holds, and the rows
are its rows. -/
theorem guardsDecideWhichLabelsStep : Obligations.GuardsDecideWhichLabelsStep := by
  unfold Obligations.GuardsDecideWhichLabelsStep
  refine fun s => ⟨fun hstop => not_takes_of_not_live ?_, fun hc hf hr => ?_⟩
  · refine Bool.eq_false_iff.2 fun hl => ?_
    obtain ⟨hc, hf, hr⟩ := (live_iff s).1 hl
    simp [hc, hf, hr] at hstop
  · have hl := live_of s hc hf hr
    have htakes : ∀ i, Takes i s ↔ labelGuard i s = true := fun i => by simp [takes_iff, hl]
    refine ⟨fun i hi => ?_, ?_, ?_, ?_, ?_, ?_, ?_, ?_, ?_, ?_, ?_, ?_, ?_, ?_, ?_⟩
    · rw [exec_eq, takeStep_not_enabled hl (Bool.eq_false_iff.2 fun hg => hi ((htakes i).2 hg))]
    all_goals simp [htakes, labelGuard, timerIrq_iff, txeIrq_iff, and_assoc]

theorem eq_loopLabel_of_labelGuard {i : Instr} {s : State} (hi : i.agent = .loop)
    (hg : labelGuard i s = true) : i = loopLabel s.fstate := by
  cases i <;> cases hi <;> simp_all [labelGuard, loopLabel]

theorem eq_tisrLabel_of_labelGuard {i : Instr} {s : State} (hi : i.agent = .timerIsr)
    (hg : labelGuard i s = true) : i = tisrLabel s.fstate := by
  cases i <;> cases hi <;> simp_all [labelGuard, tisrLabel_eq]

/-- Settles O17: FSTATE names the one LOOP label (`loopLabel`) and the only TIMER_ISR label
(`tisrLabel`) whose guard can hold. -/
theorem loopAlwaysHasOneEnabledArm : Obligations.LoopAlwaysHasOneEnabledArm := by
  unfold Obligations.LoopAlwaysHasOneEnabledArm
  intro s hc hf hr
  have hguard : ∀ {i}, Takes i s → labelGuard i s = true := fun h => ((takes_iff _ s).1 h).2
  refine ⟨⟨loopLabel s.fstate, loopLabel_agent _, ?_, fun j hj ht => ?_⟩, fun i j hi hj hti htj => ?_⟩
  · exact (takes_iff _ s).2 ⟨live_of s hc hf hr, labelGuard_loopLabel rfl⟩
  · exact eq_loopLabel_of_labelGuard hj (hguard ht)
  · rw [eq_tisrLabel_of_labelGuard hi (hguard hti), eq_tisrLabel_of_labelGuard hj (hguard htj)]

end Sys2Proof.Machine
end

section
/-! PROOFS. The micro-operations run by themselves that return a value or take an operand (spec
40_transmit_buffer.md R101 to R103, 41_byte_stream_transmitter.md R120, 43_collaborators.md R170, R176,
R178, R179). -/

namespace Sys2Proof.Machine

/- ### TX.BURST -/

/-- Settles O29: TX.BURST has no guard, so the step is `txBurst_eq` with its count returned, or the fault
of `txBurst_disabled`. -/
theorem burstPushesWhatFits : Obligations.BurstPushesWhatFits := by
  unfold Obligations.BurstPushesWhatFits
  refine ⟨rfl, fun s hc hf hr he => ?_⟩
  have hl := live_of s hc hf hr
  refine ⟨fun ht => exec_updates hl rfl ?_, fun ht hpos =>
    exec_raises (i := .txBurst) (c := .pushWhileDisabled) hl rfl ?_⟩
  · simp only [effect, txBurst_eq hc he ht]
  · simp only [effect, txBurst_disabled hc he ht hpos]

/- ### BUF.HASMORE and BUF.TAKENEXT -/

/-- Settles O32: the returned flag is the unsigned compare itself. -/
theorem bufHasMoreComparesTheCursors : Obligations.BufHasMoreComparesTheCursors := by
  unfold Obligations.BufHasMoreComparesTheCursors
  exact ⟨rfl, fun s hc hf hr => exec_updates (live_of s hc hf hr) rfl rfl⟩

/-- A byte of the payload that NEXT points at and END does not exclude is taken, wherever END lies. -/
theorem bufTakeNext_of_getElem? {s : State} {b : Byte} (hc : configOK s.cfg = true)
    (h : s.nextCur.toNat ≤ s.endCur.toNat) (hb : s.cfg.payload[s.nextCur.toNat]? = some b) :
    bufTakeNext s = .ok (b, { s with nextCur := BitVec.ofNat 16 (s.nextCur.toNat + 1) }) := by
  obtain ⟨-, -, hpay, -⟩ := (configOK_iff s.cfg).1 hc
  obtain ⟨hlt, -⟩ := List.getElem?_eq_some_iff.1 hb
  have hread : memRead s.cfg s.nextCur.toNat = some b := by rw [memRead, if_pos (hpay ▸ hlt), hb]
  have hnext : BitVec.ofNat 16 (s.nextCur.toNat + 1) = s.nextCur + 1 := by simp [BitVec.ofNat_add]
  simp [bufTakeNext, (hasMore_iff s).2 h, hread, hnext]

/-- With NEXT beyond the payload there is no address to read (R50, R51). -/
theorem bufTakeNext_beyond {s : State} (h : s.nextCur.toNat ≤ s.endCur.toNat)
    (hlen : s.cfg.len ≤ s.nextCur.toNat) : bufTakeNext s = .error (.stop .payloadRange) := by
  simp [bufTakeNext, (hasMore_iff s).2 h, memRead_of_ge hlen]

/-- Settles O33: one case of BUF.TAKENEXT for each clause. -/
theorem bufTakeNextReturnsTheNextByte : Obligations.BufTakeNextReturnsTheNextByte := by
  unfold Obligations.BufTakeNextReturnsTheNextByte
  refine ⟨rfl, fun s hc hf hr => ?_⟩
  have hl := live_of s hc hf hr
  refine ⟨fun b hle hb => exec_updates hl rfl ?_,
    fun hlt => exec_raises (i := .bufTakeNext) (c := .bufUnderrun) hl rfl ?_, fun hle hlen => ?_⟩
  · simp only [effect, bufTakeNext_of_getElem? hc hle hb]
  · simp only [effect, bufTakeNext_underrun hlt]
  · rw [exec_enabled hl rfl]
    simp only [effect, bufTakeNext_beyond hle hlen, finish_stop]

/- ### The drain law -/

/-- BUF.TAKENEXT called `m` times takes the next `m` bytes of the payload, while they last. -/
theorem takeMany_eq {m : Nat} {s : State} (hc : configOK s.cfg = true)
    (hend : s.endCur.toNat = s.cfg.len - 1) (hm : s.nextCur.toNat + m ≤ s.cfg.len) :
    takeMany m s = some ((s.cfg.payload.drop s.nextCur.toNat).take m,
      { s with nextCur := BitVec.ofNat 16 (s.nextCur.toNat + m) }) := by
  obtain ⟨hpos, hlen, -⟩ := (configOK_iff s.cfg).1 hc
  induction m generalizing s with
  | zero => simp [takeMany]
  | succ m ih =>
    obtain ⟨b, hb, htake⟩ := bufTakeNext_takes hc (by omega) (s := s) (by omega)
    have hnext : (BitVec.ofNat 16 (s.nextCur.toNat + 1)).toNat = s.nextCur.toNat + 1 :=
      Nat.mod_eq_of_lt (by omega)
    have hrest := ih (s := { s with nextCur := BitVec.ofNat 16 (s.nextCur.toNat + 1) }) hc hend
      (by rw [hnext]; dsimp only; omega) hpos hlen
    obtain ⟨hlt, rfl⟩ := List.getElem?_eq_some_iff.1 hb
    rw [hnext] at hrest
    simp only [takeMany, htake, hrest]
    rw [List.drop_eq_getElem_cons hlt, List.take_succ_cons, Nat.add_right_comm, Nat.add_assoc]

theorem hasMore_eq_false_iff (s : State) :
    hasMore s = false ↔ s.endCur.toNat < s.nextCur.toNat := by
  simp [hasMore]

/-- TXISR's burst takes nothing from a drained buffer (R122). -/
theorem effect_txisr_drained {s : State} (h : s.endCur.toNat < s.nextCur.toNat) :
    effect .txisr s = .ok (completeIfDrained s) := by
  have hidle : burstCount s = 0 := by unfold burstCount; omega
  simp only [effect, txBurst, burstLoop_idle hidle]

/-- Of the steps of the agents LOOP.BEGIN_SEND alone turns a drained buffer into one with bytes left: of
the two that write the cursors, TXISR takes nothing from a drained buffer. -/
theorem Trans.hasMore_eq_false {s t : State} {i : Instr} (h : Trans s i t) (hm : hasMore s = false)
    (hi : i ≠ .loopBeginSend) : hasMore t = false := by
  rw [hasMore_eq_false_iff] at hm ⊢
  by_cases hf : t.fcode = 0
  · cases h.cleanStep hf with
    | loopBeginSend => exact absurd rfl hi
    | txisr =>
      obtain ⟨-, hok⟩ := effect_ok_of_fcode_zero h.2 hf
      rw [effect_txisr_drained hm] at hok
      simpa [← Except.ok.inj hok] using hm
    | loopBreak | loopMark | sendingDone | spin | wake | pollBreak | pollMark | pollSending | tisrInBreak
    | tisrInMark | timerTick | uartShift => simpa using hm
  · obtain ⟨-, c, rfl⟩ := exec_next_of_fcode_ne_zero h.2 hf
    exact hm

/-- Settles O34: BUF.RESET puts the cursors where `takeMany_eq` counts from 0, and the last clause is
`Trans.hasMore_eq_false`. -/
theorem drainLaw : Obligations.DrainLaw := by
  unfold Obligations.DrainLaw
  refine ⟨fun s m hc hm => ?_, fun s t i htrans hs ht => ?_⟩
  · obtain ⟨hpos, hlen, -⟩ := (configOK_iff s.cfg).1 hc
    have hend := lastIndex_toNat hc
    have hmany := takeMany_eq (s := bufReset s) (m := m) hc hend (by simpa using hm)
    have hcursor : (BitVec.ofNat 16 m).toNat = m := Nat.mod_eq_of_lt (by omega)
    rw [lastIndex] at hend
    refine ⟨by simpa [bufReset, lastIndex] using hmany, ?_⟩
    rw [hasMore, hcursor, hend, decide_eq_decide]
    omega
  · by_contra hi
    simp [htrans.hasMore_eq_false hs hi] at ht

/- ### TIMER.ARM, UART.PUSH and the GPIO -/

/-- Settles O38: the value loaded is `timerLoad`, which fits the width (`timerLoad_fits`); loaded with 0
the timer has no count left to tick. -/
theorem timerArmLoadsAndEnables : Obligations.TimerArmLoadsAndEnables := by
  unfold Obligations.TimerArmLoadsAndEnables
  refine ⟨rfl, fun s hc hf hr => ⟨timerLoad s.cfg s.args.ticks, timerLoad_fits hc _, fun hlt => ?_,
    exec_updates (live_of s hc hf hr) rfl rfl, fun hzero htakes => ?_⟩⟩
  · rw [timerLoad_of_lt hlt, toNat_ofNat_of_le_timerWidth hc (Nat.le_sub_one_of_lt hlt)]
  · obtain ⟨-, hg⟩ := (takes_iff _ _).1 htakes
    simp [labelGuard, hzero, timerLoad_of_lt] at hg

/-- Settles O42: UART.PUSH has no guard, so each clause is a case of the primitive. -/
theorem uartPushAppendsOrFaults : Obligations.UartPushAppendsOrFaults := by
  unfold Obligations.UartPushAppendsOrFaults
  refine ⟨rfl, fun s hc hf hr => ?_⟩
  have hl := live_of s hc hf hr
  exact ⟨fun ht hroom => exec_updates hl rfl (uartPush_appends _ ht hroom),
    fun ht => exec_raises (i := .uartPush) hl rfl (uartPush_disabled _ ht),
    fun ht hfull => exec_raises (i := .uartPush) hl rfl (uartPush_overflow _ ht hfull)⟩

/-- Settles O43: the two have no guard; GPIO.SET_LINE's effect is `gpioSetLine_eq`. -/
theorem gpioSetsLineAndActivity : Obligations.GpioSetsLineAndActivity := by
  unfold Obligations.GpioSetsLineAndActivity
  refine ⟨rfl, rfl, fun s hc hf hr => ?_⟩
  have hl := live_of s hc hf hr
  exact ⟨exec_updates hl rfl (by rw [effect, gpioSetLine_eq]), exec_updates hl rfl rfl⟩

end Sys2Proof.Machine
end

section
/-! PROOFS. The states reachable from a launch (spec 42_frame_timing_controller.md R153 to R155,
41_byte_stream_transmitter.md R123, R124, 60_exceptions.md R207) and the width of TCOUNT (10_state.md R35). -/

namespace Sys2Proof.Machine

/- ### Launch -/

theorem invariants_launch {c : Config} (hc : configOK c = true) : Invariants (State.launch c) := by
  have hend : (State.launch c).endCur.toNat = c.len - 1 := lastIndex_toNat hc
  refine ⟨⟨Nat.zero_le _, hend⟩, Nat.zero_le _, ?_⟩
  simp [I3, I4, I5, I6, I7, I8, I9, I10, I11, I12, I13, I14, I15, State.launch]

/-- Settles O49: every register but END is 0 or the value that R155 asks for. -/
theorem invariantsHoldAtLaunch : Obligations.InvariantsHoldAtLaunch := by
  unfold Obligations.InvariantsHoldAtLaunch
  have hreset : configOK Config.atReset = true := by decide
  exact ⟨fun c hc => ⟨invariants_launch hc, Nat.two_pow_pos _⟩, rfl, invariants_launch hreset, hreset,
    rfl, launch_refused_eq_false hreset⟩

/- ### The width of TCOUNT -/

theorem Trans.tcountFits {s t : State} {i : Instr} (h : Trans s i t) (hfit : TcountFits s) :
    TcountFits t := by
  by_cases hf : t.fcode = 0
  · obtain ⟨hg, -⟩ := effect_ok_of_fcode_zero h.2 hf
    cases h.cleanStep hf with
    | loopBreak => simpa [TcountFits] using timerLoad_fits h.configOK s.cfg.breakTicks
    | loopMark => simpa [TcountFits] using timerLoad_fits h.configOK s.cfg.markTicks
    | loopBeginSend => exact Nat.two_pow_pos _
    | timerTick =>
      obtain ⟨-, hpos⟩ : s.tarmed = true ∧ 0 < s.tcount.toNat := by simpa [labelGuard] using hg
      have hpred : (s.tcount - 1).toNat = s.tcount.toNat - 1 := by bv_omega
      simp only [TcountFits, timerTick_tcount, timerTick_cfg, hpred] at hfit ⊢
      omega
    | sendingDone | spin | wake | pollBreak | pollMark | pollSending | tisrInBreak | tisrInMark | txisr
    | uartShift => simpa [TcountFits] using hfit
  · obtain ⟨-, c, rfl⟩ := exec_next_of_fcode_ne_zero h.2 hf
    exact hfit

/-- Settles O51: the timer is loaded within its width or counts down from a positive count; a refused
label leaves it alone. -/
theorem everyStepKeepsTcountInItsWidth : Obligations.EveryStepKeepsTcountInItsWidth := by
  unfold Obligations.EveryStepKeepsTcountInItsWidth
  intro s t hfit h
  obtain ⟨-, b, rest, -, ⟨i, hread, hexec⟩ | rfl⟩ := step_next h
  · have htrans : Trans { s with schedule := rest } i t := ⟨(readLabel_schedulable hread).2, hexec⟩
    exact htrans.tcountFits hfit
  · exact hfit

/- ### Reachable states -/

/-- R155 over every schedule, with the parameters of the launch and no fault. -/
theorem Reachable.invariants {c : Config} {s : State} (hc : configOK c = true) (h : Reachable c s) :
    s.cfg = c ∧ s.fcode = 0 ∧ Invariants s := by
  induction h with
  | launch bs => exact ⟨rfl, rfl, invariants_launch hc⟩
  | @step s t _ hstep ih =>
    obtain ⟨hcfg, hf, hinv⟩ := ih
    obtain ⟨hinv', hf'⟩ := everyStepKeepsTheInvariants s t hinv hstep
    obtain ⟨-, ⟨i, rest, hcycle⟩ | rfl⟩ := step_cycleStep hinv hstep
    · exact ⟨hcycle.cfg_eq.trans hcfg, hf'.trans hf, hinv'⟩
    · exact ⟨hcfg, hf, hinv'⟩

/-- Where the invariants hold, a schedulable label's step does not stop the model (log entry 11). -/
theorem exec_ne_fault {s : State} {i : Instr} (hinv : Invariants s) (hi : i.schedulable = true)
    (f : Fault) : exec i s ≠ .fault f := by
  intro h
  obtain ⟨hl, hg⟩ := (takes_iff i s).1 fun r hr => by rw [hr] at h; cases h
  obtain ⟨t, ht, -⟩ := exec_cycleStep hinv hl hi hg
  rw [ht] at h
  cases h

/-- A step of the machine stops only where the scheduled label's step does. -/
theorem step_fault {s : State} {f : Fault} (h : step s = .fault f) :
    ∃ i rest, i.schedulable = true ∧ exec i { s with schedule := rest } = .fault f := by
  unfold step advance at h
  split at h
  · unfold fetchLabel at h
    split at h
    · cases h
    · rename_i b rest hs
      cases hread : readLabel b with
      | schedulable i =>
        rw [hread] at h
        exact ⟨i, rest, (readLabel_schedulable hread).2, h⟩
      | micro i => rw [hread] at h; cases h
      | reserved => rw [hread] at h; cases h
  · cases h

/-- Settles O52: R155's invariants hold (`Reachable.invariants`), and where they do every enabled label
makes a step of `CycleStep`, which writes no FCODE. -/
theorem noFaultIsReachable : Obligations.NoFaultIsReachable := by
  unfold Obligations.NoFaultIsReachable
  intro c s hc hreach
  obtain ⟨hcfg, hf, hinv⟩ := hreach.invariants hc
  refine ⟨hcfg, hf, fun f hstop => ?_, fun i hi => ⟨exec_ne_fault hinv hi, fun t ht => ?_⟩⟩
  · obtain ⟨i, rest, hi, hexec⟩ := step_fault hstop
    exact exec_ne_fault (s := { s with schedule := rest }) hinv hi f hexec
  · rw [(Trans.cycleStep ⟨hi, ht⟩ hinv).fcode_eq, hf]

/-- Settles O53: each request needs its enable, and I6 excludes the two enables. -/
theorem interruptSourcesExclude : Obligations.InterruptSourcesExclude := by
  unfold Obligations.InterruptSourcesExclude
  intro c s hc hreach
  obtain ⟨-, -, -, -, -, -, -, hexcl, -⟩ := hreach.invariants hc
  refine ⟨fun ⟨htimer, htxe⟩ => hexcl ⟨?_, ?_⟩, hexcl⟩
  · exact ((timerIrq_iff s).1 htimer).2.1
  · exact ((txeIrq_iff s).1 htxe).1

/-- Settles O54: at BEGIN_SEND the transmitter is disabled (I8), so FIFO is empty (I7) and the step is
that of `CycleStep`. -/
theorem splitLaw : Obligations.SplitLaw := by
  unfold Obligations.SplitLaw
  intro c s t hc hreach hs ht
  obtain ⟨rfl, -, hinv⟩ := hreach.invariants hc
  obtain ⟨hpos, hlen, -⟩ := (configOK_iff s.cfg).1 hc
  have hstep := Trans.cycleStep ⟨rfl, ht⟩ hinv
  obtain ⟨-, -, -, -, -, -, hfifo, htxen, -⟩ := hinv
  have hoff : s.txen = false := by simpa [I8, hs] using htxen
  have hnext : (BitVec.ofNat 16 (min s.cfg.len s.cfg.fifoDepth)).toNat
      = min s.cfg.len s.cfg.fifoDepth := Nat.mod_eq_of_lt (by omega)
  have hend : (BitVec.ofNat 16 (s.cfg.len - 1)).toNat = s.cfg.len - 1 := lastIndex_toNat hc
  cases hstep with
  | loopBeginSend =>
    rw [min_comm s.cfg.fifoDepth]
    refine ⟨hfifo hoff, rfl, hnext, ?_, rfl, rfl⟩
    rw [hnext, hend]
    omega

/-- CFLAG becomes 1 in TXISR only (R124). -/
theorem CycleStep.eq_txisr_of_cflag {s t : State} {i : Instr} (h : CycleStep s i t)
    (hs : s.cflag = false) (ht : t.cflag = true) : i = .txisr := by
  cases h with
  | txisr => rfl
  | _ => simp_all

/-- Settles O55: only TXISR sets CFLAG, and what CFLAG = 1 means is I14 in the next state, with END by I1. -/
theorem completionLaw : Obligations.CompletionLaw := by
  unfold Obligations.CompletionLaw
  intro c s t i hc hreach htrans
  obtain ⟨rfl, -, hinv⟩ := hreach.invariants hc
  have hstep := htrans.cycleStep hinv
  obtain ⟨hpos, -⟩ := (configOK_iff s.cfg).1 hc
  obtain ⟨⟨-, hend⟩, -, -, -, -, -, -, -, -, -, -, -, -, hdone, -⟩ := htrans.invariants hinv
  rw [hstep.cfg_eq] at hend
  refine ⟨hstep.eq_txisr_of_cflag, fun hflag => ?_⟩
  obtain ⟨hnext, htxeie⟩ := hdone hflag
  rw [hstep.cfg_eq] at hnext
  refine ⟨hnext, htxeie, (hasMore_eq_false_iff t).2 ?_⟩
  omega

end Sys2Proof.Machine
end

section
/-! PROOFS. What a device that does not step holds up, and how long the line stays low and high (spec
70_reset_and_hazards.md R249, R251, 41_byte_stream_transmitter.md R127). -/

namespace Sys2Proof.Machine

theorem Path.invariants {s t : State} {is : List Instr} (h : Path s is t) (hinv : Invariants s) :
    Invariants t := by
  induction h with
  | nil => exact hinv
  | cons hstep _ ih => exact ih (hstep.invariants hinv)

/- ### Waiting for the timer -/

/-- In IN_BREAK and IN_MARK nothing happens but polls, ticks and, once the timer has expired, its
handler. -/
theorem CycleStep.waiting {s t : State} {i : Instr} (h : CycleStep s i t) (hinv : Invariants s)
    (hs : s.fstate = .inBreak ∨ s.fstate = .inMark) :
    (t = s ∧ i ≠ .timerTick) ∨
    (i = .timerTick ∧ t.fstate = s.fstate ∧ t.wire = s.wire ∧
      s.tcount.toNat = t.tcount.toNat + 1) ∨
    s.tpend = true := by
  obtain ⟨-, -, -, -, htxeie, -, -, htxen, -⟩ := hinv
  cases h with
  | pollBreak | pollMark | pollSending => exact .inl ⟨rfl, by decide⟩
  | tick ha h1 => exact .inr (.inl ⟨rfl, rfl, rfl, by bv_omega⟩)
  | expire ha h1 => exact .inr (.inl ⟨rfl, rfl, rfl, h1⟩)
  | tisrInBreak _ hp | tisrInMark _ hp => exact .inr (.inr hp)
  | txisr he => simp [(htxeie he).1] at hs
  | uartShift b rest ht => rcases htxen ht with hs' | hs' | hs' <;> simp [hs'] at hs
  | loopBreak hs' | loopMark hs' | loopBeginSend hs' | sendingDone hs' | spin hs' | wake hs' =>
    simp [hs'] at hs

/-- Without ticks an armed timer keeps the loop polling (R249). -/
theorem path_eq_of_no_tick {s t : State} {is : List Instr} (h : Path s is t) (hinv : Invariants s)
    (hs : s.fstate = .inBreak ∨ s.fstate = .inMark) (ha : s.tarmed = true) (hi : .timerTick ∉ is) :
    t = s := by
  induction h with
  | nil => rfl
  | cons hstep _ ih =>
    rcases (hstep.cycleStep hinv).waiting hinv hs with ⟨rfl, -⟩ | ⟨rfl, -⟩ | hp
    · exact ih hinv hs ha fun hmem => hi (.tail _ hmem)
    · exact absurd (.head _) hi
    · obtain ⟨-, -, -, -, -, -, -, -, -, -, -, hexp, -⟩ := hinv
      simp [(hexp hp).1] at ha

/-- While the timer runs WIRE gets nothing: a change of WIRE takes as many ticks as TCOUNT counts (R251). -/
theorem path_wire_eq_or_tcount_le {s t : State} {is : List Instr} (h : Path s is t)
    (hinv : Invariants s) (hs : s.fstate = .inBreak ∨ s.fstate = .inMark) :
    t.wire = s.wire ∨ s.tcount.toNat ≤ is.count .timerTick := by
  induction h with
  | nil => exact .inl rfl
  | @cons s m t i is hstep _ ih =>
    have ih := ih (hstep.invariants hinv)
    rcases (hstep.cycleStep hinv).waiting hinv hs with ⟨rfl, -⟩ | ⟨rfl, hf, hw, hcount⟩ | hp
    · exact (ih hs).imp_right fun hle => hle.trans List.count_le_count_cons
    · rw [hf, hw] at ih
      rw [List.count_cons_self]
      exact (ih hs).imp_right fun hle => by omega
    · obtain ⟨-, -, -, -, -, -, -, -, -, -, -, hexp, -⟩ := hinv
      have hzero : s.tcount.toNat = 0 := by rw [(hexp hp).2]; rfl
      exact .inr (by omega)

/-- Settles O58: LOOP.BREAK emits BRK, as the line was high (I9), and loads P_BREAK_TICKS; then it is
`path_wire_eq_or_tcount_le`. -/
theorem breakLastsItsTicks : Obligations.BreakLastsItsTicks := by
  unfold Obligations.BreakLastsItsTicks
  intro c s t u is hc hreach ht hpath
  obtain ⟨rfl, -, hinv⟩ := hreach.invariants hc
  obtain ⟨-, -, -, -, -, -, -, -, -, hfits, -⟩ := (configOK_iff s.cfg).1 hc
  have hload := toNat_ofNat_of_le_timerWidth hc hfits
  have htrans : Trans s .loopBreak t := ⟨rfl, ht⟩
  have hwait := path_wire_eq_or_tcount_le hpath (htrans.invariants hinv)
  cases htrans.cycleStep hinv with
  | loopBreak hs =>
    refine ⟨by simp, fun hmab => ?_⟩
    rcases hwait (.inl rfl) with hw | hle
    · simp [hw] at hmab
    · exact hload ▸ hle

/-- In MARK only LOOP.MARK steps: the timer is off (I3), the transmitter too (I5, I8). -/
theorem CycleStep.of_mark {s t : State} {i : Instr} (h : CycleStep s i t) (hinv : Invariants s)
    (hs : s.fstate = .mark) :
    t.fstate = .inMark ∧ t.wire = s.wire ∧ t.tcount = BitVec.ofNat 32 s.cfg.markTicks := by
  obtain ⟨-, -, hpend, -, htxeie, -, -, htxen, -⟩ := hinv
  cases h with
  | loopMark => exact ⟨rfl, rfl, rfl⟩
  | txisr he => simpa [hs] using (htxeie he).1
  | tick ha | expire ha => rcases hpend (.inl ha) with hs' | hs' <;> simp [hs] at hs'
  | uartShift b rest ht => rcases htxen ht with hs' | hs' | hs' <;> simp [hs] at hs'
  | pollBreak hs' | pollMark hs' | pollSending hs' | loopBreak hs' | tisrInBreak hs' | tisrInMark hs'
  | loopBeginSend hs' | sendingDone hs' | spin hs' | wake hs' => simp [hs] at hs'

/-- Settles O59: TISR.IN_BREAK emits MAB and leads to MARK, from where LOOP.MARK loads P_MARK_TICKS; then
it is `path_wire_eq_or_tcount_le`. -/
theorem markLastsItsTicks : Obligations.MarkLastsItsTicks := by
  unfold Obligations.MarkLastsItsTicks
  intro c s t u is hc hreach ht hpath
  obtain ⟨rfl, -, hinv⟩ := hreach.invariants hc
  obtain ⟨-, -, -, -, -, -, -, -, -, -, -, hfits, -⟩ := (configOK_iff s.cfg).1 hc
  have hload := toNat_ofNat_of_le_timerWidth hc hfits
  have htrans : Trans s .tisrInBreak t := ⟨rfl, ht⟩
  have hstep := htrans.cycleStep hinv
  have hcfg := hstep.cfg_eq
  have hinv' := htrans.invariants hinv
  obtain ⟨hmark, hmab⟩ : t.fstate = .mark ∧ .mab ∈ t.wire.drop s.wire.length := by
    cases hstep with
    | tisrInBreak hs => exact ⟨rfl, by simp⟩
  refine ⟨hmab, fun ⟨b, hb⟩ => ?_⟩
  cases hpath with
  | nil => simp at hb
  | cons hfirst hrest =>
    obtain ⟨hs, hw, hcount⟩ := (hfirst.cycleStep hinv').of_mark hinv' hmark
    rcases path_wire_eq_or_tcount_le hrest (hfirst.invariants hinv') (.inr hs) with hw' | hle
    · simp [hw', hw] at hb
    · rw [hcount, hcfg, hload] at hle
      exact hle.trans List.count_le_count_cons

/- ### Waiting for the UART -/

/-- SENDING with more bytes left than FIFO has places: the next burst cannot complete the frame. -/
def Overfull (s : State) : Prop :=
  s.fstate = .sending ∧ s.cflag = false ∧
    s.cfg.fifoDepth - s.fifo.length < s.endCur.toNat + 1 - s.nextCur.toNat

/-- Without a shift the loop stays where a burst cannot complete the frame: a burst takes exactly the
places that are left (R127). -/
theorem CycleStep.overfull {s t : State} {i : Instr} (h : CycleStep s i t) (hc : configOK s.cfg = true)
    (hinv : Invariants s) (ho : Overfull s) (hi : i ≠ .uartShift) : Overfull t ∧ t.wire = s.wire := by
  obtain ⟨hs, hwait, hleft⟩ := ho
  obtain ⟨⟨-, hend⟩, -, hpend, -⟩ := hinv
  cases h with
  | pollBreak | pollMark | pollSending => exact ⟨⟨hs, hwait, hleft⟩, rfl⟩
  | txisr he hroom =>
    obtain ⟨hpos, -, hpay, -⟩ := (configOK_iff s.cfg).1 hc
    have hmoved := nextCur_add_burstCount_toNat (s := s) hc (by omega)
    have hcount : burstCount s = s.cfg.fifoDepth - s.fifo.length := by unfold burstCount; omega
    refine ⟨⟨hs, ?_, ?_⟩, rfl⟩
    · simp only [hwait, Bool.false_or, decide_eq_false_iff_not]
      omega
    · simp only [hmoved, List.length_append, List.length_take, List.length_drop, hpay]
      omega
  | uartShift => exact absurd rfl hi
  | sendingDone _ hdone => simp [hwait] at hdone
  | tick ha | expire ha => rcases hpend (.inl ha) with hs' | hs' <;> simp [hs] at hs'
  | loopBreak hs' | tisrInBreak hs' | loopMark hs' | tisrInMark hs' | loopBeginSend hs' | spin hs'
  | wake hs' => simp [hs] at hs'

/-- Without shifts every path stays there (R249). -/
theorem path_overfull {s t : State} {is : List Instr} (h : Path s is t) (hinv : Invariants s)
    (ho : Overfull s) (hi : .uartShift ∉ is) : Overfull t ∧ t.wire = s.wire := by
  induction h with
  | nil => exact ⟨ho, rfl⟩
  | cons hstep _ ih =>
    rw [List.mem_cons, not_or] at hi
    obtain ⟨ho', hw⟩ := (hstep.cycleStep hinv).overfull hstep.configOK hinv ho (Ne.symm hi.1)
    rw [← hw]
    exact ih (hstep.invariants hinv) ho' hi.2

/-- Settles O56: `path_overfull` without shifts, `path_eq_of_no_tick` without ticks. -/
theorem aStalledDeviceStallsTheLoop : Obligations.AStalledDeviceStallsTheLoop := by
  unfold Obligations.AStalledDeviceStallsTheLoop
  intro s t is hinv hpath
  refine ⟨fun hs hwait hi hleft => ?_, path_eq_of_no_tick hpath hinv⟩
  obtain ⟨⟨ht, hwait', -⟩, hw⟩ := path_overfull hpath hinv ⟨hs, hwait, hleft⟩ hi
  exact ⟨ht, hwait', hw⟩

end Sys2Proof.Machine
end

section
/-! PROOFS. The wire law (spec 42_frame_timing_controller.md R153): what stands on WIRE at each point of a
frame. -/

namespace Sys2Proof.Machine

/-- What the frame under way has put on WIRE, by where the block stands in it. While the transmitter is
enabled, FIFO holds what was accepted of the payload and is not on the line yet; outside SENDING all of it
was accepted. -/
inductive OnWire (s : State) : List WireEvent → Prop where
  | launched : s.fstate = .break_ → s.txen = false → OnWire s []
  | low : s.fstate = .inBreak → OnWire s [.brk]
  | high : s.fstate = .mark ∨ s.fstate = .inMark ∨ s.fstate = .beginSend → OnWire s [.brk, .mab]
  | sent (k : Nat) : s.txen = true → k ≤ s.nextCur.toNat →
      s.fifo = (s.cfg.payload.take s.nextCur.toNat).drop k →
      s.fstate = .sending ∨ s.cflag = true →
      OnWire s ([.brk, .mab] ++ (s.cfg.payload.take k).map .byte)

/-- WIRE is a run of whole frames and what the frame under way has put there. -/
def WireLaw (s : State) : Prop :=
  ∃ ks w, (∀ k ∈ ks, k ≤ s.cfg.len) ∧ s.wire = wireFrames s.cfg ks ++ w ∧ OnWire s w

theorem wireFrames_concat (c : Config) (ks : List Nat) (k : Nat) :
    wireFrames c (ks ++ [k]) = wireFrames c ks ++ wireFrame c k := by
  simp [wireFrames]

/-- LOOP.BREAK ends a frame of which `k` bytes were sent: TRUNC records the rest of the payload (R174). -/
theorem wireFrame_of_fifo {c : Config} (hc : configOK c = true) {k : Nat} {fifo : List Byte}
    (hfifo : fifo = c.payload.drop k) :
    [.brk, .mab] ++ (c.payload.take k).map .byte ++ (if fifo = [] then [] else [.trunc fifo.length])
      = wireFrame c k := by
  obtain ⟨-, -, hpay, -⟩ := (configOK_iff c).1 hc
  by_cases hk : k < c.len
  · simp [wireFrame, hfifo, hpay, hk]
  · simp [wireFrame, hfifo, hpay, hk, Nat.not_lt.1 hk]

/-- A byte that leaves FIFO is the next one of the payload. -/
theorem take_succ_of_drop_eq_cons {l : List Byte} {n k : Nat} {b : Byte} {rest : List Byte}
    (h : b :: rest = (l.take n).drop k) :
    k < n ∧ l.take (k + 1) = l.take k ++ [b] ∧ rest = (l.take n).drop (k + 1) := by
  have hlt : k < (l.take n).length := by
    by_contra hge
    rw [List.drop_of_length_le (by omega)] at h
    cases h
  rw [List.drop_eq_getElem_cons hlt, List.cons.injEq, List.getElem_take] at h
  obtain ⟨rfl, rfl⟩ := h
  rw [List.length_take] at hlt
  refine ⟨by omega, ?_, rfl⟩
  rw [List.take_append_getElem]

theorem OnWire.eq_low {s : State} {w : List WireEvent} (h : OnWire s w) (htxen : I8 s)
    (hs : s.fstate = .inBreak) : w = [.brk] := by
  cases h with
  | low => rfl
  | launched hs' | high hs' => simp [hs] at hs'
  | sent k ht => simpa [hs] using htxen ht

theorem OnWire.eq_high {s : State} {w : List WireEvent} (h : OnWire s w) (htxen : I8 s)
    (hs : s.fstate = .mark ∨ s.fstate = .inMark ∨ s.fstate = .beginSend) : w = [.brk, .mab] := by
  cases h with
  | high => rfl
  | launched hs' | low hs' => simp [hs'] at hs
  | sent k ht => rcases htxen ht with hs' | hs' | hs' <;> simp [hs'] at hs

/-- From LOOP.BEGIN_SEND to the next LOOP.BREAK the frame is in its data. -/
theorem OnWire.eq_sent {s : State} {w : List WireEvent} (h : OnWire s w) (htxen : I8 s)
    (hs : s.txen = true ∨ s.fstate = .sending ∨ s.fstate = .sleeping) :
    ∃ k, w = [.brk, .mab] ++ (s.cfg.payload.take k).map .byte ∧ s.txen = true ∧
      k ≤ s.nextCur.toNat ∧ s.fifo = (s.cfg.payload.take s.nextCur.toNat).drop k ∧
      (s.fstate = .sending ∨ s.cflag = true) := by
  cases h with
  | sent k ht hk hq hin => exact ⟨k, rfl, ht, hk, hq, hin⟩
  | launched hs' hoff => simp [hs', hoff] at hs
  | low hs' =>
    have ht : s.txen = true := by simpa [hs'] using hs
    simpa [hs'] using htxen ht
  | high hs' =>
    have ht : s.txen = true := by rcases hs' with hs' | hs' | hs' <;> simpa [hs'] using hs
    rcases hs' with hs' | hs' | hs' <;> simpa [hs'] using htxen ht

/-- LOOP.BREAK ends the frame under way, if there is one, and begins the next. -/
theorem wireLaw_loopBreak {s t : State} (h : CycleStep s .loopBreak t) (hc : configOK s.cfg = true)
    (hinv : Invariants s) (hw : WireLaw s) : WireLaw t := by
  obtain ⟨ks, w, hks, hwire, hon⟩ := hw
  obtain ⟨⟨hnext, -⟩, -, -, -, -, -, hfifo, htxen, -, -, -, -, -, hdone, -⟩ := hinv
  cases h with
  | loopBreak hs =>
    by_cases ht : s.txen = true
    · obtain ⟨k, rfl, -, hk, hq, hin⟩ := hon.eq_sent htxen (.inl ht)
      have hflag : s.cflag = true := by simpa [hs] using hin
      obtain ⟨-, -, hpay, -⟩ := (configOK_iff s.cfg).1 hc
      rw [(hdone hflag).1, ← hpay, List.take_length] at hq
      refine ⟨ks ++ [k], [.brk], fun j hj => ?_, ?_, .low rfl⟩
      · rcases List.mem_append.1 hj with hj | hj
        · exact hks j hj
        · exact (List.mem_singleton.1 hj).trans_le (hk.trans hnext)
      · simp only [hwire, wireFrames_concat, ← wireFrame_of_fifo hc hq, List.append_assoc]
    · have hoff : s.txen = false := Bool.eq_false_iff.2 ht
      cases hon with
      | launched => exact ⟨ks, [.brk], hks, by simp [hwire, hfifo hoff], .low rfl⟩
      | low hs' | high hs' => simp [hs] at hs'
      | sent k ht' => exact absurd ht' ht

/-- Every step keeps the wire law. -/
theorem CycleStep.wireLaw {s t : State} {i : Instr} (h : CycleStep s i t) (hc : configOK s.cfg = true)
    (hinv : Invariants s) (hw : WireLaw s) : WireLaw t := by
  have ⟨ks, w, hks, hwire, hon⟩ := hw
  have ⟨⟨hnext, hend⟩, _, hpend, _, htxeie, _, _, htxen, _⟩ := hinv
  cases h with
  | pollBreak | pollMark | pollSending => exact hw
  | loopBreak hs => exact wireLaw_loopBreak (.loopBreak hs) hc hinv hw
  | tisrInBreak hs hp =>
    obtain rfl := hon.eq_low htxen hs
    exact ⟨ks, [.brk, .mab], hks, by simp [hwire], .high (.inl rfl)⟩
  | loopMark hs =>
    obtain rfl := hon.eq_high htxen (.inl hs)
    exact ⟨ks, _, hks, hwire, .high (.inr (.inl rfl))⟩
  | tisrInMark hs hp =>
    obtain rfl := hon.eq_high htxen (.inr (.inl hs))
    exact ⟨ks, _, hks, hwire, .high (.inr (.inr rfl))⟩
  | loopBeginSend hs =>
    obtain rfl := hon.eq_high htxen (.inr (.inr hs))
    obtain ⟨-, hlen, -⟩ := (configOK_iff s.cfg).1 hc
    have hmoved : (BitVec.ofNat 16 (min s.cfg.fifoDepth s.cfg.len)).toNat
        = min s.cfg.fifoDepth s.cfg.len := Nat.mod_eq_of_lt (by omega)
    refine ⟨ks, _, hks, hwire, .sent 0 rfl (Nat.zero_le _) ?_ (.inl rfl)⟩
    rw [hmoved, List.drop_zero]
  | txisr he hroom =>
    obtain ⟨hs, -, ht⟩ := htxeie he
    obtain ⟨k, rfl, -, hk, hq, -⟩ := hon.eq_sent htxen (.inl ht)
    obtain ⟨hpos, -, hpay, -⟩ := (configOK_iff s.cfg).1 hc
    have hmoved := nextCur_add_burstCount_toNat (s := s) hc (by omega)
    have hle : k ≤ (s.cfg.payload.take s.nextCur.toNat).length := by rw [List.length_take]; omega
    refine ⟨ks, _, hks, hwire, .sent k ht ?_ ?_ (.inl hs)⟩
    · rw [hmoved]
      omega
    · rw [hmoved, List.take_add, List.drop_append_of_le_length hle, hq]
  | sendingDone hs hdone =>
    obtain ⟨k, rfl, ht, hk, hq, -⟩ := hon.eq_sent htxen (.inr (.inl hs))
    exact ⟨ks, _, hks, hwire, .sent k ht hk hq (.inr hdone)⟩
  | spin hs h0 =>
    obtain ⟨k, rfl, ht, hk, hq, hin⟩ := hon.eq_sent htxen (.inr (.inr hs))
    exact ⟨ks, _, hks, hwire, .sent k ht hk hq hin⟩
  | wake hs h0 =>
    obtain ⟨k, rfl, ht, hk, hq, hin⟩ := hon.eq_sent htxen (.inr (.inr hs))
    exact ⟨ks, _, hks, hwire, .sent k ht hk hq (.inr (by simpa [hs] using hin))⟩
  | tick ha | expire ha =>
    rcases hpend (.inl ha) with hs | hs
    · obtain rfl := hon.eq_low htxen hs
      exact ⟨ks, _, hks, hwire, .low hs⟩
    · obtain rfl := hon.eq_high htxen (.inr (.inl hs))
      exact ⟨ks, _, hks, hwire, .high (.inr (.inl hs))⟩
  | uartShift b rest ht hq' =>
    obtain ⟨k, rfl, -, hk, hq, hin⟩ := hon.eq_sent htxen (.inl ht)
    obtain ⟨hlt, htake, hrest⟩ := take_succ_of_drop_eq_cons (hq' ▸ hq)
    refine ⟨ks, _, hks, ?_, .sent (k + 1) ht hlt hrest hin⟩
    simp [hwire, htake]

/-- The wire law speaks of neither the schedule nor REFUSED. -/
theorem WireLaw.congr {s : State} (h : WireLaw s) (bs : List Byte) (r : Bool) :
    WireLaw { s with schedule := bs, refused := r } := by
  obtain ⟨ks, w, hks, hwire, hon⟩ := h
  refine ⟨ks, w, hks, hwire, ?_⟩
  cases hon with
  | launched hs hoff => exact .launched hs hoff
  | low hs => exact .low hs
  | high hs => exact .high hs
  | sent k ht hk hq hin => exact .sent k ht hk hq hin

theorem Reachable.wireLaw {c : Config} {s : State} (hc : configOK c = true) (h : Reachable c s) :
    WireLaw s := by
  induction h with
  | launch bs => exact ⟨[], [], by simp, rfl, .launched rfl rfl⟩
  | @step s t hreach hstep ih =>
    obtain ⟨-, -, hinv⟩ := hreach.invariants hc
    obtain ⟨hc, ⟨i, rest, hcycle⟩ | rfl⟩ := step_cycleStep hinv hstep
    · exact hcycle.wireLaw hc hinv (ih.congr rest s.refused)
    · exact ih.congr s.schedule true

/-- What a frame under way has put on WIRE begins a frame with an admissible count. -/
theorem OnWire.prefix_wireFrame {s : State} {w : List WireEvent} (h : OnWire s w)
    (hnext : s.nextCur.toNat ≤ s.cfg.len) :
    ∃ k ≤ s.cfg.len, w <+: wireFrame s.cfg k := by
  cases h with
  | launched => exact ⟨0, Nat.zero_le _, List.nil_prefix⟩
  | low => exact ⟨0, Nat.zero_le _, by simp [wireFrame]⟩
  | high => exact ⟨0, Nat.zero_le _, by simp [wireFrame]⟩
  | sent k ht hk => exact ⟨k, hk.trans hnext, List.prefix_append _ _⟩

/-- Settles O57: the frame under way is completed to the frame it begins. -/
theorem wireIsASequenceOfFrames : Obligations.WireIsASequenceOfFrames := by
  unfold Obligations.WireIsASequenceOfFrames
  intro c s hc hreach
  obtain ⟨rfl, -, ⟨hnext, -⟩, -⟩ := hreach.invariants hc
  obtain ⟨ks, w, hks, hwire, hon⟩ := hreach.wireLaw hc
  obtain ⟨k, hk, hprefix⟩ := hon.prefix_wireFrame hnext
  refine ⟨ks ++ [k], fun j hj => ?_, ?_⟩
  · rcases List.mem_append.1 hj with hj | hj
    · exact hks j hj
    · exact (List.mem_singleton.1 hj).trans_le hk
  · rw [hwire, wireFrames_concat]
    exact List.prefix_append_right_inj _ |>.2 hprefix

end Sys2Proof.Machine
end

section
/-! PROOFS. Liveness under weak fairness (spec 70_reset_and_hazards.md R256, R257). Each state of the cycle
is left by the step of its `driver` once a condition holds (`ReadyToLeave`), and until it holds there is one
agent whose steps bring it nearer (`waitsFor`, `waitMeasure`). -/

namespace Sys2Proof.Machine

/- ### What keeps the agents enabled -/

/-- What R155 leaves unsaid and progress needs: interrupts are enabled, the timer is under way wherever the
loop waits for it, and so is the transmitter until the frame is complete. -/
structure KeepsGoing (s : State) : Prop where
  gie : s.gie = true
  timer : s.fstate = .inBreak ∨ s.fstate = .inMark →
    s.tie = true ∧ (s.tarmed = true ∨ s.tpend = true)
  sender : s.fstate = .sending → s.txen = true ∧ (s.cflag = false → s.txeie = true)

theorem CycleStep.keepsGoing {s t : State} {i : Instr} (h : CycleStep s i t) (hinv : Invariants s)
    (hk : KeepsGoing s) : KeepsGoing t := by
  obtain ⟨hgie, htimer, hsender⟩ := hk
  obtain ⟨-, -, hpend, -, htxeie, -⟩ := hinv
  cases h with
  | pollBreak | pollMark | pollSending => exact ⟨hgie, htimer, hsender⟩
  | loopBreak | tisrInBreak | loopMark | tisrInMark | loopBeginSend | sendingDone | wake =>
    exact ⟨hgie, by simp, by simp⟩
  | txisr he =>
    refine ⟨hgie, htimer, fun hs => ⟨(hsender hs).1, fun hwait => ?_⟩⟩
    simpa using (Bool.or_eq_false_iff.1 hwait).2
  | spin hs => exact ⟨hgie, by simp [hs], by simp [hs]⟩
  | tick ha => exact ⟨hgie, htimer, hsender⟩
  | expire ha => exact ⟨hgie, fun hs => ⟨(htimer hs).1, .inr rfl⟩, hsender⟩
  | uartShift => exact ⟨hgie, htimer, hsender⟩

/-- What holds in every state of a run. -/
structure Steady (s : State) : Prop where
  config : configOK s.cfg = true
  inv : Invariants s
  going : KeepsGoing s

theorem CycleStep.steady {s t : State} {i : Instr} (h : CycleStep s i t) (hs : Steady s) : Steady t :=
  ⟨h.cfg_eq ▸ hs.config, h.invariants hs.config hs.inv, h.keepsGoing hs.inv hs.going⟩

/- ### Leaving a state of the cycle -/

/-- The condition under which the driver of FSTATE's value (R151) moves on. -/
def ReadyToLeave (s : State) : Prop :=
  match s.fstate with
  | .inBreak | .inMark => s.tpend = true
  | .sending => s.cflag = true
  | .sleeping => s.sleepCnt = 0
  | .break_ | .mark | .beginSend | .reserved => True

/-- A state that is ready is left by its driver's step, and stays ready until then. -/
theorem CycleStep.leaves {s t : State} {i : Instr} (h : CycleStep s i t) (hs : Steady s)
    (hr : ReadyToLeave s) :
    (t.fstate = s.fstate ∧ ReadyToLeave t ∧ i.agent ≠ driver s.fstate) ∨
      t.fstate = cycleNext s.fstate := by
  obtain ⟨-, -, hpend, -, htxeie, -, -, htxen, -, -, -, hexp, -, hdone, hcode⟩ := hs.inv
  cases h with
  | loopBreak hs | tisrInBreak hs | loopMark hs | tisrInMark hs | loopBeginSend hs | sendingDone hs
  | wake hs => exact .inr (by simp [hs, cycleNext])
  | pollBreak hs | pollMark hs => exact .inl ⟨rfl, hr, by simp [hs, Instr.agent, driver]⟩
  | pollSending hs hwait => simp [ReadyToLeave, hs, hwait] at hr
  | spin hs h0 => exact absurd (by simpa only [ReadyToLeave, hs] using hr) h0
  | txisr he =>
    obtain ⟨hs, hwait, -⟩ := htxeie he
    simp [ReadyToLeave, hs, hwait] at hr
  | tick ha | expire ha =>
    have hp : s.tpend = true := by
      rcases hpend (.inl ha) with hs | hs <;> simpa only [ReadyToLeave, hs] using hr
    simp [(hexp hp).1] at ha
  | uartShift b rest ht =>
    refine .inl ⟨rfl, hr, ?_⟩
    rcases htxen ht with hs | hs | hs <;> simp [hs, Instr.agent, driver]

/-- The driver of a state that is ready has an enabled label. -/
theorem exists_labelGuard_driver {s : State} (hs : Steady s) (hr : ReadyToLeave s) :
    ∃ i : Instr, i.agent = driver s.fstate ∧ i.schedulable = true ∧ labelGuard i s = true := by
  obtain ⟨hgie, htimer, -⟩ := hs.going
  cases hf : s.fstate with
  | inBreak =>
    have hp : s.tpend = true := by simpa only [ReadyToLeave, hf] using hr
    have hirq := (timerIrq_iff s).2 ⟨hp, (htimer (.inl hf)).1, hgie⟩
    exact ⟨.tisrInBreak, rfl, rfl, by simp [labelGuard, hirq, hf]⟩
  | inMark =>
    have hp : s.tpend = true := by simpa only [ReadyToLeave, hf] using hr
    have hirq := (timerIrq_iff s).2 ⟨hp, (htimer (.inr hf)).1, hgie⟩
    exact ⟨.tisrInMark, rfl, rfl, by simp [labelGuard, hirq, hf]⟩
  | break_ => exact ⟨.loopBreak, rfl, rfl, labelGuard_loopLabel hf⟩
  | mark => exact ⟨.loopMark, rfl, rfl, labelGuard_loopLabel hf⟩
  | beginSend => exact ⟨.loopBeginSend, rfl, rfl, labelGuard_loopLabel hf⟩
  | sending => exact ⟨.loopSending, rfl, rfl, labelGuard_loopLabel hf⟩
  | sleeping => exact ⟨.loopSleeping, rfl, rfl, labelGuard_loopLabel hf⟩
  | reserved => exact ⟨.loopIllegal, rfl, rfl, labelGuard_loopLabel hf⟩

/- ### Getting ready to leave -/

/-- The agent whose step a state that is not ready waits for: the timer's ticks, the busy-wait's
iterations, and in SENDING a burst, or a shift where FIFO is full. -/
def waitsFor (s : State) : Agent :=
  match s.fstate with
  | .inBreak | .inMark => .timer
  | .sending => if uartRoom s then .txeIsr else .uart
  | .break_ | .mark | .beginSend | .sleeping | .reserved => .loop

/-- What every step but a poll makes smaller while a state is not ready. A byte counts twice before it is
pushed and once before it is shifted. -/
def waitMeasure (s : State) : Nat :=
  match s.fstate with
  | .inBreak | .inMark => s.tcount.toNat
  | .sending => 2 * (s.endCur.toNat + 1 - s.nextCur.toNat) + s.fifo.length
  | .sleeping => s.sleepCnt.toNat + s.fifo.length
  | .break_ | .mark | .beginSend | .reserved => 0

/-- A state that is not ready: a step polls, or comes nearer to being ready. -/
theorem CycleStep.waits {s t : State} {i : Instr} (h : CycleStep s i t) (hs : Steady s)
    (hr : ¬ReadyToLeave s) :
    t.fstate = s.fstate ∧
      ((t = s ∧ i.agent ≠ waitsFor s) ∨ ReadyToLeave t ∨ waitMeasure t < waitMeasure s) := by
  obtain ⟨hc, ⟨⟨-, hend⟩, -, hpend, -, htxeie, -, -, htxen, -⟩, -⟩ := hs
  cases h with
  | pollBreak hs | pollMark hs => exact ⟨rfl, .inl ⟨rfl, by simp [waitsFor, hs, Instr.agent]⟩⟩
  | pollSending hs =>
    refine ⟨rfl, .inl ⟨rfl, ?_⟩⟩
    cases hroom : uartRoom s <;> simp [waitsFor, hs, hroom, Instr.agent]
  | loopBreak hs | loopMark hs | loopBeginSend hs => simp [ReadyToLeave, hs] at hr
  | tisrInBreak hs hp | tisrInMark hs hp => simp [ReadyToLeave, hs, hp] at hr
  | sendingDone hs hdone => simp [ReadyToLeave, hs, hdone] at hr
  | wake hs h0 => simp [ReadyToLeave, hs, h0] at hr
  | spin hs h0 =>
    refine ⟨rfl, .inr (.inr ?_)⟩
    simp only [waitMeasure, hs]
    bv_omega
  | tick ha h1 =>
    refine ⟨rfl, .inr (.inr ?_)⟩
    rcases hpend (.inl ha) with hs | hs <;> simp only [waitMeasure, hs] <;> bv_omega
  | expire ha =>
    refine ⟨rfl, .inr (.inl ?_)⟩
    rcases hpend (.inl ha) with hs | hs <;> simp only [ReadyToLeave, hs]
  | txisr he hroom =>
    refine ⟨rfl, .inr ?_⟩
    obtain ⟨hs, -, -⟩ := htxeie he
    by_cases hdrained : s.endCur.toNat < s.nextCur.toNat + burstCount s
    · exact .inl (by simp [ReadyToLeave, hs, hdrained])
    · obtain ⟨hpos, -⟩ := (configOK_iff s.cfg).1 hc
      have hmoved := nextCur_add_burstCount_toNat (s := s) hc (by omega)
      have hsome : 0 < burstCount s := (burstCount_pos_iff s).2 ⟨hroom, by omega⟩
      simp only [waitMeasure, hs, hmoved, List.length_append, List.length_take]
      exact .inr (by omega)
  | uartShift b rest ht hq =>
    refine ⟨rfl, .inr (.inr ?_)⟩
    rcases htxen ht with hs | hs | hs
    · simp [waitMeasure, hs, hq]
    · simp [waitMeasure, hs, hq]
    · simp [ReadyToLeave, hs] at hr

theorem exists_labelGuard_waitsFor {s : State} (hs : Steady s) (hr : ¬ReadyToLeave s) :
    ∃ i : Instr, i.agent = waitsFor s ∧ i.schedulable = true ∧ labelGuard i s = true := by
  obtain ⟨hc, ⟨-, -, -, -, -, -, -, -, -, -, -, -, hcount, -⟩, hgie, htimer, hsender⟩ := hs
  cases hf : s.fstate with
  | inBreak | inMark =>
    have hp : s.tpend ≠ true := by simpa only [ReadyToLeave, hf] using hr
    have ha : s.tarmed = true := (htimer (by simp [hf])).2.resolve_right hp
    exact ⟨.timerTick, by simp [waitsFor, hf, Instr.agent], rfl, labelGuard_timerTick ha (hcount ha)⟩
  | sending =>
    have hwait : s.cflag = false := by simpa [ReadyToLeave, hf] using hr
    obtain ⟨ht, htxeie⟩ := hsender hf
    by_cases hroom : uartRoom s = true
    · refine ⟨.txisr, by simp [waitsFor, hf, hroom, Instr.agent], rfl, (txeIrq_iff s).2 ?_⟩
      exact ⟨htxeie hwait, hgie, (uartRoom_iff s).1 hroom⟩
    · obtain ⟨-, -, -, -, hdepth, -⟩ := (configOK_iff s.cfg).1 hc
      have hfull : 0 < s.fifo.length := by rw [uartRoom_iff] at hroom; omega
      exact ⟨.uartShift, by simp [waitsFor, hf, hroom, Instr.agent], rfl, by simp [labelGuard, ht, hfull]⟩
  | sleeping => exact ⟨.loopSleeping, by simp [waitsFor, hf, Instr.agent], rfl, labelGuard_loopLabel hf⟩
  | break_ | mark | beginSend | reserved => simp [ReadyToLeave, hf] at hr

/- ### Fair runs -/

section
variable {c : Config} (r : Run c)

/-- Whenever `P` holds in the run, `Q` holds then or later. -/
def Run.LeadsTo (P Q : State → Prop) : Prop := ∀ n, P (r.at_ n) → ∃ m, n ≤ m ∧ Q (r.at_ m)

theorem Run.live (n : Nat) : live (r.at_ n) = true := (exec_next (r.steps n).2).1

theorem Run.steady (hc : configOK c = true) (n : Nat) : Steady (r.at_ n) := by
  induction n with
  | zero =>
    rw [r.start]
    exact ⟨hc, invariants_launch hc, rfl, by simp [State.launch], by simp [State.launch]⟩
  | succ n ih => exact ((r.steps n).cycleStep ih.inv).steady ih

/-- A step of the agent `a` that stays enabled while `P` holds is taken, so `P` leads to `Q` if such a
step does and no other step leads elsewhere (R256). -/
theorem Run.leadsTo_of_fair (hc : configOK c = true) (hfair : r.WeaklyFair) (a : Agent)
    {P Q : State → Prop}
    (henabled : ∀ s, Steady s → P s →
      ∃ i : Instr, i.agent = a ∧ i.schedulable = true ∧ labelGuard i s = true)
    (hstep : ∀ s i t, Steady s → P s → CycleStep s i t → (P t ∧ i.agent ≠ a) ∨ Q t) :
    r.LeadsTo P Q := by
  intro n hn
  by_contra hnever
  have hone : ∀ m, n ≤ m → P (r.at_ m) → P (r.at_ (m + 1)) ∧ (r.label m).agent ≠ a := by
    intro m hm hP
    have hs := r.steady hc m
    refine (hstep _ _ _ hs hP ((r.steps m).cycleStep hs.inv)).resolve_right fun hQ => ?_
    exact hnever ⟨m + 1, by omega, hQ⟩
  have hP : ∀ m, n ≤ m → P (r.at_ m) := fun m hm =>
    Nat.le_induction hn (fun m hm ih => (hone m hm ih).1) m hm
  obtain ⟨m, hm, ha⟩ := hfair a n fun m hm => by
    obtain ⟨i, hi, hsched, hg⟩ := henabled _ (r.steady hc m) (hP m hm)
    exact ⟨i, hi, hsched, r.live m, hg⟩
  exact (hone m hm (hP m hm)).2 ha

/-- A state that is ready is left. -/
theorem Run.leadsTo_of_ready (hc : configOK c = true) (hfair : r.WeaklyFair) (f : FState) :
    r.LeadsTo (fun s => s.fstate = f ∧ ReadyToLeave s) (fun s => s.fstate = cycleNext f) := by
  refine r.leadsTo_of_fair hc hfair (driver f) ?_ ?_
  · rintro s hs ⟨rfl, hr⟩
    exact exists_labelGuard_driver hs hr
  · rintro s i t hs ⟨rfl, hr⟩ h
    refine (h.leaves hs hr).imp_left ?_
    rintro ⟨hf, hr', hi⟩
    exact ⟨⟨hf, hr'⟩, hi⟩

/-- A state that is not ready comes nearer to being so. -/
theorem Run.leadsTo_nearer (hc : configOK c = true) (hfair : r.WeaklyFair) (s₀ : State)
    (hr : ¬ReadyToLeave s₀) :
    r.LeadsTo (fun s => s = s₀)
      (fun s => s.fstate = s₀.fstate ∧ (ReadyToLeave s ∨ waitMeasure s < waitMeasure s₀)) := by
  refine r.leadsTo_of_fair hc hfair (waitsFor s₀) ?_ ?_
  · rintro s hs rfl
    exact exists_labelGuard_waitsFor hs hr
  · rintro s i t hs rfl h
    obtain ⟨hf, hpoll | hnear⟩ := h.waits hs hr
    · exact .inl hpoll
    · exact .inr ⟨hf, hnear⟩

/-- Every state of the cycle gets ready to be left. -/
theorem Run.leadsTo_ready (hc : configOK c = true) (hfair : r.WeaklyFair) (f : FState) :
    r.LeadsTo (fun s => s.fstate = f) (fun s => s.fstate = f ∧ ReadyToLeave s) := by
  intro n hn
  induction hk : waitMeasure (r.at_ n) using Nat.strong_induction_on generalizing n with
  | _ k ih =>
    by_cases hr : ReadyToLeave (r.at_ n)
    · exact ⟨n, le_rfl, hn, hr⟩
    · obtain ⟨m, hm, hf, hready | hless⟩ := r.leadsTo_nearer hc hfair (r.at_ n) hr n rfl
      · exact ⟨m, hm, hf.trans hn, hready⟩
      · obtain ⟨m', hm', h⟩ := ih _ (hk ▸ hless) m (hf.trans hn) rfl
        exact ⟨m', hm.trans hm', h⟩

theorem Run.wire_prefix {n m : Nat} (h : n ≤ m) : (r.at_ n).wire <+: (r.at_ m).wire := by
  induction m, h using Nat.le_induction with
  | base => exact List.prefix_rfl
  | succ m _ ih =>
    obtain ⟨-, -, hgrows, -⟩ := exec_keeps (r.steps m).2
    exact ih.trans hgrows

/-- BREAK is left with one more BRK on WIRE. -/
theorem Run.leadsTo_brk (hc : configOK c = true) (hfair : r.WeaklyFair) (k : Nat) :
    r.LeadsTo (fun s => s.fstate = .break_ ∧ k ≤ s.wire.count .brk)
      (fun s => k + 1 ≤ s.wire.count .brk) := by
  refine r.leadsTo_of_fair hc hfair .loop ?_ ?_
  · rintro s - ⟨hf, -⟩
    exact ⟨.loopBreak, rfl, rfl, labelGuard_loopLabel hf⟩
  · rintro s i t hs ⟨hf, hk⟩ h
    obtain ⟨-, -, hpend, -, htxeie, -⟩ := hs.inv
    cases h with
    | loopBreak =>
      simp only [List.count_append, List.count_singleton_self]
      exact .inr (by omega)
    | uartShift b rest => exact .inl ⟨⟨hf, by simpa using hk⟩, by decide⟩
    | txisr he => simpa [hf] using (htxeie he).1
    | tick ha | expire ha => rcases hpend (.inl ha) with hs | hs <;> simp [hf] at hs
    | pollBreak hs | pollMark hs | pollSending hs | tisrInBreak hs | loopMark hs | tisrInMark hs
    | loopBeginSend hs | sendingDone hs | spin hs | wake hs => simp [hf] at hs

/-- From every state of the cycle its successor is reached, so is the successor's, and so on. -/
theorem Run.leadsTo_iterate_cycleNext (hc : configOK c = true) (hfair : r.WeaklyFair) (f : FState)
    (j : Nat) : r.LeadsTo (fun s => s.fstate = f) (fun s => s.fstate = cycleNext^[j] f) := by
  induction j with
  | zero => exact fun n hn => ⟨n, le_rfl, hn⟩
  | succ j ih =>
    intro n hn
    obtain ⟨m₁, hm₁, h₁⟩ := ih n hn
    obtain ⟨m₂, hm₂, h₂⟩ := r.leadsTo_ready hc hfair _ m₁ h₁
    obtain ⟨m₃, hm₃, h₃⟩ := r.leadsTo_of_ready hc hfair _ m₂ h₂
    refine ⟨m₃, hm₁.trans (hm₂.trans hm₃), ?_⟩
    rw [Function.iterate_succ_apply']
    exact h₃

end

/-- The cycle of R22 goes from each of its states to each. -/
theorem exists_iterate_cycleNext {f g : FState} (hf : f ≠ .reserved) (hg : g ≠ .reserved) :
    ∃ j, cycleNext^[j] f = g := by
  have hto : cycleNext^[7 - (fstateCode f).toNat] f = .break_ := by
    cases f
    case reserved => exact absurd rfl hf
    all_goals rfl
  have hfrom : cycleNext^[(fstateCode g).toNat] .break_ = g := by
    cases g
    case reserved => exact absurd rfl hg
    all_goals rfl
  exact ⟨_, by rw [Function.iterate_add_apply, hto, hfrom]⟩

/-- Settles O60: the run goes on from state to state of the cycle (`Run.leadsTo_iterate_cycleNext`), and
each time it leaves BREAK there is one more BRK (`Run.leadsTo_brk`). -/
theorem fairRunsCycleForever : Obligations.FairRunsCycleForever := by
  unfold Obligations.FairRunsCycleForever
  intro c r hc hfair
  have hvisits : ∀ f : FState, f ≠ .reserved → ∀ n, ∃ m, n ≤ m ∧ (r.at_ m).fstate = f := by
    intro f hf n
    obtain ⟨-, -, -, -, -, -, -, -, -, -, -, -, -, -, hcode⟩ := (r.steady hc n).inv
    obtain ⟨j, rfl⟩ := exists_iterate_cycleNext hcode hf
    exact r.leadsTo_iterate_cycleNext hc hfair _ j n rfl
  refine ⟨hvisits, fun k => ?_⟩
  induction k with
  | zero => exact ⟨0, Nat.zero_le _⟩
  | succ k ih =>
    obtain ⟨n, hn⟩ := ih
    obtain ⟨m, hm, hbreak⟩ := hvisits .break_ (by decide) n
    have hk := hn.trans ((r.wire_prefix hm).sublist.count_le _)
    obtain ⟨m', -, hm'⟩ := r.leadsTo_brk hc hfair k m ⟨hbreak, hk⟩
    exact ⟨m', hm'⟩

end Sys2Proof.Machine
end
